-- ==== Sys2Proof/Word.lean ====
section
/-! DEFINITION. The words the K41's spec treats as bits: bytes on its links, and the counters that wrap or saturate. -/

namespace Sys2Proof

/-- One byte of a meter link or of the supervisor link. -/
abbrev Byte := BitVec 8

/-- A 16-bit diagnostic counter, which saturates (spec/00, Counters). -/
abbrev Count16 := BitVec 16

/-- A 32-bit counter, which wraps (spec/00, Counters). -/
abbrev Count32 := BitVec 32

end Sys2Proof
end

