-- ==== Sys2Proof/Syntax.lean ====
section
/-! DEFINITION. The commands of the K41: one constructor of `Instr` per row of spec/opcode_table.json, with the
operands the rules give each row (the table names none: log entry 1). -/

namespace Sys2Proof

/-- The two meter ports: A at MEASURE, B at VERIFY (spec/03). -/
inductive PortId where
  | a | b
  deriving DecidableEq, Repr

/-- The two grade banks (R80). -/
inductive BankId where
  | a | b
  deriving DecidableEq, Repr

/-- A sort bin. The value is the bin's number less one: bins 1 to 15 (R108). -/
abbrev SortBin := Fin 15

/-- A pocket number, 0 to 31 (R4). -/
abbrev PocketNo := Fin 32

/-- A gate line, GATE0 to GATE15 (R127). -/
abbrev Line := Fin 16

/-- The shares of one index arrival after the ring has advanced. The spec lets several pairs of them be taken in
either order (R11, R70, R116, R133, R144); the command names the order (log entry 6). -/
inductive Share where
  /-- The SLIP trip trigger of a HOME disagreement (R11). -/
  | slip
  /-- The RETEST and RECIRC passes at offset 0 (R12, R13). -/
  | passes
  /-- The meter triggers at S2 and S3 (R44 to R46). -/
  | triggers
  /-- The grading at the decision point (R95). -/
  | grading
  /-- The pulse ends, the fires at the gates and the sweep (R128 to R134). -/
  | gates
  /-- The drift monitor's period count (R143). -/
  | drift
  deriving DecidableEq, Repr

/-- The pin levels at a release of reset (R27, R37, R38, R170). -/
structure ReleasePins where
  /-- The MPORTS pin is high. -/
  mports : Bool
  /-- The GPOL pin is high. -/
  gpol : Bool
  /-- The qualified INDEX level is active. -/
  index : Bool
  /-- The qualified LOAD level is active. -/
  load : Bool
  /-- The qualified SAFE level is active (the pin is low). -/
  safe : Bool
  /-- nSCS is active (the pin is low). -/
  nscs : Bool
  deriving DecidableEq, Repr

/-- What follows a request's opcode: the length byte and the payload bytes received (R171). -/
structure Body where
  len : Byte
  bytes : List Byte
  deriving DecidableEq, Repr

/-- The commands, in the order of spec/opcode_table.json. -/
inductive Instr where
  | indexArrival (home contact convalid : Bool) (order : List Share)
  | periodWrap
  | loadArrival (refsel : Bool)
  | overdueEpisodeStart
  | safeActive
  | actionComplete
  | drainComplete (bin : SortBin)
  | bankReturnsToStandby (bank : BankId)
  | frameArrival (port : PortId) (frame : List Byte)
  | triggerFrameSent (port : PortId)
  | meterTimeout (port : PortId)
  | gatePulseExpiry (line : Line)
  | powerOnReset
  | nreset
  | resetRelease (pins : ReleasePins)
  | transactionStart
  | transactionEnd (received : List Bool) (clocked : Nat)
  | unknownOpcode (opcode : Byte) (body : Body)
  | nop (rest : List Byte)
  | identify (body : Body)
  | readAttention (body : Body)
  | readHold (body : Body)
  | verdict (body : Body)
  | setRing (body : Body)
  | start (body : Body)
  | stop (body : Body)
  | clearTrack (body : Body)
  | readPocket (body : Body)
  | readDeviceCounts (body : Body)
  | setAux (body : Body)
  | setMeter (body : Body)
  | restoreMeter (body : Body)
  | readMeter (body : Body)
  | writeLot (body : Body)
  | writeEntry (body : Body)
  | writeClass (body : Body)
  | copyBank (body : Body)
  | activate (body : Body)
  | readBank (body : Body)
  | readLotCounts (body : Body)
  | setBin (body : Body)
  | readBin (body : Body)
  | swapBegin (body : Body)
  | swapDone (body : Body)
  | setDrift (body : Body)
  | readDrift (body : Body)
  | clearDrift (body : Body)
  | setTrip (body : Body)
  | trip (body : Body)
  | readTrip (body : Body)
  | clearTrip (body : Body)
  | safeInactive
  | meterByteReceived (port : PortId) (levels : List Bool)
  | gpolPinChange (high : Bool)
  deriving DecidableEq, Repr

end Sys2Proof
end

