-- ==== Sys2Proof/Decode.lean ====
section
/-! DEFINITION. Decoding of table words. No row of spec/opcode_table.json gives bits (its "fields" are all empty), so
no word spells a command (log entry 2). The bytes of the links are read in Machine/Frames.lean and Machine/Operands.lean. -/

namespace Sys2Proof

/-- The command that a table word spells: none, for no row of the table gives bits. -/
def decodeTableWord (_nbits _w : Nat) : Option Instr := none

end Sys2Proof
end

