-- ==== Sys2Proof/Config.lean ====
section
/-! DEFINITION. The free values: what the spec leaves open, as constants with no body. -/

namespace Sys2Proof.Config

/-- Which of two meter timers that are both to expire goes first: port B's when true. The argument
is the state's count of ticks (R57 states no order; DESIGN CHOICE, log entry 5). -/
opaque portBExpiresFirst : Nat → Bool

/-- The reference temperature of a record whose bank tag is NONE. R65 says that no such record is measured, so the
spec states no value (DESIGN CHOICE, log entry 15). -/
opaque untaggedTref : Int

/-- The level of SDO at each bit place while nSCS, active since before the release of reset, has not risen. R170 says that
SDO is driven then and that SCK is ignored, and states no level (DESIGN CHOICE, log entry 29). -/
opaque ignoredSdo : Nat → Bool

end Sys2Proof.Config
end

