-- ==== Sys2Proof/Machine/Frames.lean ====
section
/-! DEFINITION. The byte layouts' helpers (spec/10, section 10.6): byte and bit order, the CRC of the meter frames, the opcode table. -/

namespace Sys2Proof.Machine

/-- The low `n` bytes of `x`, most significant first (R183). -/
def bytesOf : Nat → Nat → List Byte
  | 0, _ => []
  | n + 1, x => BitVec.ofNat 8 (x / 256 ^ n) :: bytesOf n x

/-- A signed field of `n` bytes in two's complement, most significant byte first (R183). -/
def signedBytesOf (n : Nat) (x : Int) : List Byte :=
  bytesOf n (x % ((256 ^ n : Nat) : Int)).toNat

/-- The unsigned value of bytes sent most significant first (R183). -/
def natOf (bs : List Byte) : Nat :=
  bs.foldl (fun acc b => acc * 256 + b.toNat) 0

/-- The two's complement value of bytes sent most significant first (R183). -/
def intOf (bs : List Byte) : Int :=
  let v := natOf bs
  if 2 * v < 256 ^ bs.length then (v : Int) else (v : Int) - ((256 ^ bs.length : Nat) : Int)

/-- The bits of a byte, most significant first: the order of SDI and SDO (R170). -/
def bitsOf (b : Byte) : List Bool := [7, 6, 5, 4, 3, 2, 1, 0].map fun i => b.getLsbD i

/-- The byte whose bits are given, most significant first (R170). -/
def byteOfBits (bits : List Bool) : Byte :=
  bits.foldl (fun acc x => acc <<< 1 ||| (if x then 1 else 0)) 0

/-- The complete bytes of the bits sampled in a transaction: eight bits make a byte, and the bits of an incomplete byte are
discarded (R170). -/
def bytesOfBits : List Bool → List Byte
  | a :: b :: c :: d :: e :: f :: g :: h :: rest => byteOfBits [a, b, c, d, e, f, g, h] :: bytesOfBits rest
  | _ => []

/-- The levels of a byte on a meter link's line, one per bit time: the start bit at the space level (false), the data bits
least significant first, the stop bit (R184). -/
def charLevels (b : Byte) (stop : Bool) : List Bool := false :: ((bitsOf b).reverse ++ [stop])

/-- The byte a receiver takes from ten line levels: the eight data bits, whatever the stop bit's level (R48, R184). -/
def byteOfLevels (levels : List Bool) : Byte := byteOfBits ((levels.drop 1).take 8).reverse

/-- One data bit into the CRC register (R185, steps 1 to 3). -/
def crcBit (reg : BitVec 16) (bit : Bool) : BitVec 16 :=
  if reg.msb == bit then reg <<< 1 else (reg <<< 1) ^^^ 0x1021#16

/-- One byte into the CRC register, most significant bit first (R185). -/
def crcByte (reg : BitVec 16) (b : Byte) : BitVec 16 := (bitsOf b).foldl crcBit reg

/-- The CRC-16 of a meter frame's bytes (R185). -/
def crc16 (bs : List Byte) : BitVec 16 :=
  bs.foldl crcByte 0xFFFF#16

/-- The opcodes of Table 10.9 with their payload lengths (R187). NOP, opcode 0, is no request (R171) and is not listed. -/
def opcodeTable : List (Nat × Nat) :=
  [(0x01, 0), (0x02, 0), (0x03, 0), (0x04, 3),
   (0x10, 22), (0x11, 0), (0x12, 0), (0x13, 0), (0x14, 1), (0x15, 0), (0x18, 4),
   (0x20, 2), (0x21, 1), (0x22, 1),
   (0x30, 21), (0x31, 14), (0x32, 6), (0x33, 1), (0x34, 1), (0x35, 3), (0x36, 1),
   (0x40, 5), (0x41, 1), (0x42, 1), (0x43, 1),
   (0x50, 8), (0x51, 0), (0x52, 0),
   (0x60, 3), (0x61, 0), (0x62, 0), (0x63, 0)]

/-- The payload length of a request's opcode, `none` for NOP and for an opcode outside Table 10.9 (R187). -/
def requestLength (op : Byte) : Option Nat :=
  opcodeTable.lookup op.toNat

end Sys2Proof.Machine
end

