-- ==== Sys2Proof/Machine/State.lean ====
section
/-! DEFINITION. The state of the K41 as plain data, block by block as spec/00 lists them, and the state after reset. -/

namespace Sys2Proof.Machine

/-! ## Pocket Track (spec/01) -/

/-- The operating state (R18). -/
inductive OpState where
  | idle | run | tripped
  deriving DecidableEq, Repr

/-- The kind of a part (Table 1.2). -/
inductive PartKind where
  | product | reference
  deriving DecidableEq, Repr

/-- The contact verdict (R10). -/
inductive Contact where
  | pass | fail
  deriving DecidableEq, Repr

/-- A station result (Table 1.2); mantissa, exponent and temperature only with status OK. -/
inductive StationResult where
  | ok (mantissa : Nat) (exponent : Int) (temperature : Int)
  | openCircuit
  | short
  | overload
  | invalid
  | skipped
  | lost
  deriving DecidableEq, Repr

/-- The nine classes (Table 5.4). -/
inductive PartClass where
  | contactFail | openPart | shortPart | overrange | underrange | unstable | missing | noMatch | exhausted
  deriving DecidableEq, Repr

/-- A bin 0 to 15: the sweep, or a sort bin (R107). -/
inductive Dest where
  | sweep
  | bin (b : SortBin)
  deriving DecidableEq, Repr

/-- The state of an occupied pocket record (Table 1.3); a bin is present exactly when GRADED. EMPTY is the absence of
a `Part` in the pocket's record. -/
inductive PartState where
  | measuring
  | graded (dest : Dest)
  | held
  | retest
  | recirc
  | void
  deriving DecidableEq, Repr

/-- What a grading left in the record: nothing, a class, or a window entry, never both (R4). -/
inductive Grade where
  | ungraded
  | byClass (c : PartClass)
  | byEntry (e : Fin 16)
  deriving DecidableEq, Repr

/-- A deviation in ppm with its saturated flag (R71). -/
structure Deviation where
  ppm : Int
  saturated : Bool
  deriving DecidableEq, Repr

/-- An occupied pocket record (Table 1.2). `tag` is `none` for NONE. -/
structure Part where
  state : PartState
  serial : Count32
  tag : Option BankId
  kind : PartKind
  retests : Nat
  contact : Option Contact
  measure : Option StationResult
  verify : Option StationResult
  deviation : Option Deviation
  grade : Grade
  deriving DecidableEq, Repr

/-- The ring configuration (Table 1.1): P, C, S2, S3, D, G1 to G15, W and the pulse width. -/
structure Ring where
  pockets : Nat
  contact : Nat
  measure : Nat
  verify : Nat
  decision : Nat
  gates : Vector Nat 15
  sweep : Nat
  pulseWidth : Nat
  deriving DecidableEq, Repr

/-- The Pocket Track's state. -/
structure Ptk where
  ring : Ring
  loadPointer : Nat
  /-- The 32 pocket records; `none` is EMPTY (R4). -/
  records : Vector (Option Part) 32
  serial : Count32
  opState : OpState
  indexCount : Count32
  conflicts : Count16
  untracked : Count16
  deriving DecidableEq, Repr

/-! ## Turret Port (spec/02) -/

/-- The restart cause (R39). -/
inductive RestartCause where
  | powerOn | resetLine
  deriving DecidableEq, Repr

/-- The auxiliary line functions (Table 2.2). -/
inductive AuxFn where
  | off | ready | refReq | drift | tripped | anyFull | holdWait | meterFault
  deriving DecidableEq, Repr

/-- The Turret Port's state, with the levels it takes from its pins. -/
structure Ttp where
  /-- MPORTS is latched as 2 (R38). -/
  mportsTwo : Bool
  /-- GPOL is latched as HIGH: the gate lines are active low (R38, R137). -/
  gpolHigh : Bool
  restartCause : RestartCause
  aux : Vector AuxFn 4
  /-- The qualified SAFE level is active (R27, R30). -/
  safeActive : Bool
  /-- The qualified level of INDEX as last taken (R27, R28; log entry 17). -/
  indexLevel : Bool
  /-- The qualified level of LOAD as last taken (R27, R29; log entry 17). -/
  loadLevel : Bool
  /-- The level of the GPOL pin (R37, R38). -/
  gpolPin : Bool
  /-- POR is in progress or nRESET is active (R27, R37). -/
  held : Bool
  /-- A power-on reset has occurred since the previous release (R39). -/
  porSince : Bool
  deriving DecidableEq, Repr

/-! ## Meter Links (spec/03) -/

/-- The state of a meter port (R40). -/
inductive PortState where
  | online | faulted | absent
  deriving DecidableEq, Repr

/-- An outstanding entry (R42). The send time is kept as the entry's age in 0.1 ms, held at 2,550 (R57, R61; log entry 23). -/
structure Outstanding where
  seq : Byte
  pocket : PocketNo
  age : Nat
  deriving DecidableEq, Repr

/-- A TRIGGER frame's fields (Table 10.5); its bytes are `TriggerFrame.bytes`. -/
structure TriggerFrame where
  seq : Byte
  pocket : PocketNo
  exponent : Int
  deriving DecidableEq, Repr

/-- The nine diagnostic counters of a port (Table 3.4). -/
structure MeterCounts where
  sent : Count16
  taken : Count16
  crcErrors : Count16
  formatErrors : Count16
  stray : Count16
  lost : Count16
  skipped : Count16
  expired : Count16
  timeouts : Count16
  deriving DecidableEq, Repr

/-- One meter port. -/
structure MeterPort where
  state : PortState
  seq : Byte
  /-- The outstanding list, oldest first (R42). -/
  entries : List Outstanding
  /-- The held temperature (R43). -/
  held : Option Int
  timeoutMs : Nat
  /-- The timeout timer: the value in ms it took when it started for the oldest entry, `none` when it does not run (R57). -/
  timer : Option Nat
  /-- The frame being transmitted (R47). -/
  txSending : Option TriggerFrame
  /-- The frames waiting for transmission (R47). -/
  txQueue : List TriggerFrame
  /-- The bytes the receiver has collected, the start byte first; empty while it is hunting (R48). -/
  rx : List Byte
  counts : MeterCounts
  deriving DecidableEq, Repr

/-! ## Grade Classifier (spec/05) -/

/-- The state of a grade bank (R81). -/
inductive BankState where
  | standby | active | draining
  deriving DecidableEq, Repr

/-- The eleven lot parameters (Table 5.3). -/
structure Lot where
  nominal : Nat
  exponent : Int
  tcr : Int
  tref : Int
  guardBand : Nat
  verify : Bool
  agreement : Nat
  retestLimit : Nat
  refCertified : Int
  refTcr : Int
  refBin : SortBin
  deriving DecidableEq, Repr

/-- A window entry (R83). -/
structure WindowEntry where
  valid : Bool
  lower : Int
  upper : Int
  primary : SortBin
  spill : List SortBin
  deriving DecidableEq, Repr

/-- The kind of a class action (R84). -/
inductive ActionKind where
  | bin | retest | hold
  deriving DecidableEq, Repr

/-- A class action (R84). -/
structure ClassAction where
  kind : ActionKind
  dest : Dest
  override : Bool
  good : Bool
  deriving DecidableEq, Repr

/-- The lot counters of a bank (Table 5.7). -/
structure LotCounts where
  loaded : Count32
  exits : Vector Count32 16
  cleared : Count32
  good : Count32
  referenceExits : Count32
  classes : Vector Count32 9
  retestRevs : Count32
  verdictsExpired : Count32
  deriving DecidableEq, Repr

/-- One grade bank (Table 5.1). -/
structure Bank where
  state : BankState
  lot : Lot
  entries : Vector WindowEntry 16
  actions : Vector ClassAction 9
  onRing : Nat
  counts : LotCounts
  deriving DecidableEq, Repr

/-! ## Bin Manager (spec/06) and Gate Driver (spec/07) -/

/-- The state of a sort bin (R109). -/
inductive BinState where
  | closed | opened | full | draining | exchange
  deriving DecidableEq, Repr

/-- A bin record (Table 6.1). -/
structure BinRec where
  state : BinState
  capacity : Nat
  margin : Nat
  filled : Nat
  reserved : Nat
  boxSeq : Count16
  deriving DecidableEq, Repr

/-- A running gate pulse: its width and the time elapsed, in 0.1 ms (R127). -/
structure Pulse where
  width : Nat
  elapsed : Nat
  deriving DecidableEq, Repr

/-! ## Drift Monitor (spec/08) -/

/-- The drift monitor's configuration (Table 8.2). -/
structure DriftConfig where
  step : Nat
  period : Nat
  hysteresis : Nat
  alarmLimit : Nat
  interval : Nat
  deriving DecidableEq, Repr

/-- The drift monitor (Tables 8.1 and 8.2). -/
structure Drm where
  target : Int
  applied : Int
  periodCount : Nat
  lastSample : Option Int
  latch : Bool
  overdueCount : Count16
  overdueFlag : Bool
  samples : Count16
  badRefs : Count16
  config : DriftConfig
  deriving DecidableEq, Repr

/-! ## Trip Controller (spec/09) -/

/-- The trip actions (Table 9.2). -/
inductive TripAction where
  | rejectAll | keepGraded | recirculate
  deriving DecidableEq, Repr

/-- The trip causes (Table 9.3). -/
inductive Cause where
  | drift | meterA | meterB | slip | safe | command
  deriving DecidableEq, Repr

/-- A cause set: each cause present at most once (R154). -/
structure CauseSet where
  drift : Bool
  meterA : Bool
  meterB : Bool
  slip : Bool
  safe : Bool
  command : Bool
  deriving DecidableEq, Repr

/-- The trip configuration (Table 9.2). -/
structure TripConfig where
  action : TripAction
  halt : Bool
  onMeterFault : Bool
  deriving DecidableEq, Repr

/-- The snapshot of a trip record (Table 9.4). -/
structure Snapshot where
  firstCause : Cause
  causes : CauseSet
  indexCount : Count32
  applied : Int
  target : Int
  lastSample : Option Int
  occupied : Nat
  graded : Nat
  bankA : BankState
  bankB : BankState
  portA : PortState
  portB : PortState
  deriving DecidableEq, Repr

/-- The trip record (R157). -/
inductive TripRecord where
  | empty
  | captured (snap : Snapshot)
  | read (snap : Snapshot)
  deriving DecidableEq, Repr

/-- The trip controller (Tables 9.1 and 9.2). -/
structure Trc where
  config : TripConfig
  causes : CauseSet
  complete : Bool
  record : TripRecord
  count : Count16
  deriving DecidableEq, Repr

/-! ## Supervisor Link (spec/10) -/

/-- The status codes (Table 10.2). -/
inductive Status where
  | ok | unknown | badLength | badValue | wrongState | condition | tooLate | notHeld | unavailable | invalidSet
  deriving DecidableEq, Repr

/-- A response: the echoed opcode, the status and the payload; the length is the payload's (R172). -/
structure Response where
  opcode : Byte
  status : Status
  payload : List Byte
  deriving DecidableEq, Repr

/-- The NOP response (R172). -/
def Response.nop : Response := { opcode := 0, status := .ok, payload := [] }

/-- The eight attention flags (Table 10.3). -/
structure Attention where
  holdWaiting : Bool
  binFull : Bool
  swapReady : Bool
  bankFree : Bool
  driftAlarm : Bool
  refOverdue : Bool
  meterFault : Bool
  trip : Bool
  deriving DecidableEq, Repr

/-- A hold list entry (R178). -/
structure HoldEntry where
  pocket : PocketNo
  serial : Count32
  cls : PartClass
  deriving DecidableEq, Repr

/-- The supervisor link. A transaction is open exactly while `outgoing` is present. -/
structure Svl where
  pending : Response
  outgoing : Option Response
  next : Option Response
  /-- The open transaction's opcode byte has been taken: at most one request arrives in a transaction (R171). -/
  taken : Bool
  /-- nSCS was active at the release of reset and has not risen yet (R170). -/
  ignoring : Bool
  /-- The model's own field: the response the last transaction delivered in full, if it did (R173; log entry 19). -/
  collected : Option Response
  attention : Attention
  /-- The hold list, oldest first (R178). -/
  hold : List HoldEntry
  deriving DecidableEq, Repr

/-! ## The whole part -/

/-- The state of the K41 with the queue of commands that wait. -/
structure State where
  ptk : Ptk
  ttp : Ttp
  portA : MeterPort
  portB : MeterPort
  bankA : Bank
  bankB : Bank
  bins : Vector BinRec 15
  gates : Vector (Option Pulse) 16
  drm : Drm
  trc : Trc
  svl : Svl
  /-- The model's own count of ticks, the argument of `Config.portBExpiresFirst` (log entry 5). -/
  ticks : Nat
  /-- The model's own queue of waiting commands, first in first out (log entry 2). -/
  pending : List Instr
  deriving DecidableEq, Repr

/-- Faults: none. No command stops the K41; trips and meter faults are states it goes on in (R58, R156). Nothing raises
a constructor of this type, which is safe. -/
inductive Fault where
  deriving DecidableEq, Repr

/-- Refusals. -/
inductive Refusal where
  /-- Raised by an arm of `exec` whose command has no meaning yet; safe, for nothing follows from it. -/
  | notModelled (mnemonic : String)
  deriving DecidableEq, Repr

/-! ## Reset values -/

/-- The power-on ring (Table 1.1). -/
def Ring.powerOn : Ring :=
  { pockets := 24, contact := 1, measure := 3, verify := 5, decision := 7,
    gates := #v[8, 9, 10, 11, 12, 13, 14, 15, 16, 17, 18, 19, 20, 21, 22], sweep := 23, pulseWidth := 30 }

/-- The Pocket Track after POR and nRESET (R2 to R5, R18, R26). -/
def Ptk.reset : Ptk :=
  { ring := .powerOn, loadPointer := 0, records := Vector.replicate 32 none, serial := 1, opState := .idle,
    indexCount := 0, conflicts := 0, untracked := 0 }

/-- The auxiliary assignment after POR and nRESET (R35). -/
def Ttp.resetAux : Vector AuxFn 4 := #v[.ready, .refReq, .tripped, .off]

/-- A meter port after POR and nRESET, in the port state given (R40 to R43, R47, R48, R57, R64). -/
def MeterPort.reset (st : PortState) : MeterPort :=
  { state := st, seq := 0, entries := [], held := none, timeoutMs := 20, timer := none, txSending := none,
    txQueue := [], rx := [], counts := ⟨0, 0, 0, 0, 0, 0, 0, 0, 0⟩ }

/-- The power-on lot parameters (Table 5.3). -/
def Lot.powerOn : Lot :=
  { nominal := 1000000, exponent := 0, tcr := 0, tref := 2500, guardBand := 0, verify := false, agreement := 100,
    retestLimit := 0, refCertified := 0, refTcr := 0, refBin := 14 }

/-- Lot counters all 0 (R104). -/
def LotCounts.zero : LotCounts :=
  { loaded := 0, exits := Vector.replicate 16 0, cleared := 0, good := 0, referenceExits := 0,
    classes := Vector.replicate 9 0, retestRevs := 0, verdictsExpired := 0 }

/-- A grade bank after POR and nRESET (Table 5.1). -/
def Bank.reset : Bank :=
  { state := .standby, lot := .powerOn, entries := Vector.replicate 16 ⟨false, 0, 0, 0, []⟩,
    actions := Vector.replicate 9 ⟨.bin, .sweep, false, false⟩, onRing := 0, counts := .zero }

/-- A bin record after POR and nRESET (Table 6.1). -/
def BinRec.reset : BinRec :=
  { state := .closed, capacity := 0, margin := 0, filled := 0, reserved := 0, boxSeq := 0 }

/-- The power-on drift configuration (Table 8.2). -/
def DriftConfig.powerOn : DriftConfig :=
  { step := 4, period := 8, hysteresis := 10, alarmLimit := 500, interval := 0 }

/-- The drift monitor after POR and nRESET (R138). -/
def Drm.reset : Drm :=
  { target := 0, applied := 0, periodCount := 0, lastSample := none, latch := false, overdueCount := 0,
    overdueFlag := false, samples := 0, badRefs := 0, config := .powerOn }

/-- The empty cause set (R154). -/
def CauseSet.none : CauseSet := ⟨false, false, false, false, false, false⟩

/-- The power-on trip configuration (Table 9.2). -/
def TripConfig.powerOn : TripConfig := { action := .rejectAll, halt := true, onMeterFault := true }

/-- The trip controller after a reset that leaves `record` and `count` (R154, R169). -/
def Trc.reset (record : TripRecord) (count : Count16) : Trc :=
  { config := .powerOn, causes := .none, complete := false, record := record, count := count }

/-- No attention flag set (R176). -/
def Attention.none : Attention := ⟨false, false, false, false, false, false, false, false⟩

/-- The supervisor link after POR and nRESET (R172, R176, R178). -/
def Svl.reset : Svl :=
  { pending := .nop, outgoing := .none, next := .none, taken := false, ignoring := false, collected := .none,
    attention := .none, hold := [] }

/-- The state just after the release of a power-on reset. The levels found at the release are the model's: MPORTS and
GPOL low, INDEX and LOAD low, SAFE and nSCS inactive (DESIGN CHOICE, log entry 3). -/
def State.reset : State :=
  { ptk := .reset,
    ttp := { mportsTwo := false, gpolHigh := false, restartCause := .powerOn, aux := Ttp.resetAux, safeActive := false,
             indexLevel := false, loadLevel := false, gpolPin := false, held := false, porSince := false },
    portA := .reset .online,
    portB := .reset .absent,
    bankA := .reset,
    bankB := .reset,
    bins := Vector.replicate 15 .reset,
    gates := Vector.replicate 16 none,
    drm := .reset,
    trc := .reset .empty 0,
    svl := .reset,
    ticks := 0,
    pending := [] }

end Sys2Proof.Machine
end

