-- ==== Sys2Proof/Machine/Flags.lean ====
section
/-! DEFINITION. The flags: attention flags, cause sets, and the conditions the output lines follow (spec/02, section 2.3). -/

namespace Sys2Proof.Machine

/-- The names of the eight attention flags (Table 10.3). -/
inductive Flag where
  | holdWaiting | binFull | swapReady | bankFree | driftAlarm | refOverdue | meterFault | trip
  deriving DecidableEq, Repr

/-- Raising a flag sets it; a set flag stays set once (R176). -/
def Attention.raise (a : Attention) : Flag → Attention
  | .holdWaiting => { a with holdWaiting := true }
  | .binFull => { a with binFull := true }
  | .swapReady => { a with swapReady := true }
  | .bankFree => { a with bankFree := true }
  | .driftAlarm => { a with driftAlarm := true }
  | .refOverdue => { a with refOverdue := true }
  | .meterFault => { a with meterFault := true }
  | .trip => { a with trip := true }

/-- Whether a flag is set. -/
def Attention.has (a : Attention) : Flag → Bool
  | .holdWaiting => a.holdWaiting
  | .binFull => a.binFull
  | .swapReady => a.swapReady
  | .bankFree => a.bankFree
  | .driftAlarm => a.driftAlarm
  | .refOverdue => a.refOverdue
  | .meterFault => a.meterFault
  | .trip => a.trip

/-- Adding a cause to a cause set; a cause already present stays present once (R156). -/
def CauseSet.add (c : CauseSet) : Cause → CauseSet
  | .drift => { c with drift := true }
  | .meterA => { c with meterA := true }
  | .meterB => { c with meterB := true }
  | .slip => { c with slip := true }
  | .safe => { c with safe := true }
  | .command => { c with command := true }

/-- Whether a cause is in a cause set. -/
def CauseSet.has (c : CauseSet) : Cause → Bool
  | .drift => c.drift
  | .meterA => c.meterA
  | .meterB => c.meterB
  | .slip => c.slip
  | .safe => c.safe
  | .command => c.command

/-- An attention flag is raised at the supervisor link (R176). -/
def State.raise (s : State) (f : Flag) : State :=
  { s with svl := { s.svl with attention := s.svl.attention.raise f } }

/-- The record of a pocket; `none` is EMPTY (R4). -/
def State.record (s : State) (p : PocketNo) : Option Part := s.ptk.records[p]

/-- The pocket at offset k: (L - k) mod P (R3). -/
def pocketAt (s : State) (k : Nat) : PocketNo :=
  Fin.ofNat 32 ((s.ptk.loadPointer + s.ptk.ring.pockets - k) % s.ptk.ring.pockets)

/-- The offset of pocket p: (L - p) mod P (R3). -/
def offsetOf (s : State) (p : PocketNo) : Nat :=
  (s.ptk.loadPointer + s.ptk.ring.pockets - p.val) % s.ptk.ring.pockets

/-- LOADINH: active whenever the state is not RUN or the pocket at offset 0 is occupied, and while reset is held (R32,
Table 2.3). -/
def loadInh (s : State) : Bool :=
  s.ttp.held || s.ptk.opState != .run || (s.record (pocketAt s 0)).isSome

/-- HALTREQ: TRIPPED with the halt flag set, or 4 entries on the hold list (R33). -/
def haltReq (s : State) : Bool :=
  !s.ttp.held && ((s.ptk.opState == .tripped && s.trc.config.halt) || s.svl.hold.length == 4)

/-- ATTN: at least one attention flag is set (R34). -/
def attn (s : State) : Bool :=
  !s.ttp.held && s.svl.attention != .none

/-- The condition of an auxiliary line function (Table 2.2). -/
def auxCondition (s : State) : AuxFn → Bool
  | .off => false
  | .ready => s.ptk.opState == .run
  | .refReq => s.drm.overdueFlag || s.drm.latch
  | .drift => s.drm.latch
  | .tripped => s.ptk.opState == .tripped
  | .anyFull => s.bins.toList.any fun r => r.state == .full || r.state == .draining || r.state == .exchange
  | .holdWait => !s.svl.hold.isEmpty
  | .meterFault => s.portA.state == .faulted || s.portB.state == .faulted

/-- The level of auxiliary line AUX0 to AUX3: it follows its function's condition (R35, Table 2.3). -/
def auxLine (s : State) (i : Fin 4) : Bool :=
  !s.ttp.held && auxCondition s s.ttp.aux[i]

/-- Whether a gate line's pin is high: a running timer drives it to its active level, and GPOL HIGH makes the lines
active low. While reset is held the GPOL pin decides (R37, R38, R137). -/
def gateLine (s : State) (l : Line) : Bool :=
  if s.ttp.held then s.ttp.gpolPin else (s.gates[l]).isSome != s.ttp.gpolHigh

end Sys2Proof.Machine
end

