-- ==== Sys2Proof/Machine/Ops.lean ====
section
/-! DEFINITION. The named operations that several commands share: access to records, bins, banks and ports, reservations
and releases, the ends of outstanding entries, voiding, recirculation marking, emptying, and the trip trigger. -/

namespace Sys2Proof.Machine

/-- Raises a saturating 16-bit counter by `n` (spec/00, Counters). -/
def satAdd (c : Count16) (n : Nat) : Count16 :=
  BitVec.ofNat 16 (min 65535 (c.toNat + n))

/-! ## Access to the parts of the state -/

/-- Writes the record of a pocket. -/
def State.setRecord (s : State) (p : PocketNo) (r : Option Part) : State :=
  { s with ptk := { s.ptk with records := s.ptk.records.set p r p.isLt } }

/-- Changes the record of an occupied pocket. -/
def State.modPart (s : State) (p : PocketNo) (f : Part → Part) : State :=
  match s.record p with
  | none => s
  | some r => s.setRecord p (some (f r))

/-- The record of a sort bin. -/
def State.bin (s : State) (b : SortBin) : BinRec := s.bins[b]

/-- Writes the record of a sort bin. -/
def State.setBin (s : State) (b : SortBin) (r : BinRec) : State :=
  { s with bins := s.bins.set b r b.isLt }

/-- The pulse timer of a gate line; `none` is idle (R127). -/
def State.pulse (s : State) (l : Line) : Option Pulse := s.gates[l]

/-- Writes the pulse timer of a gate line. -/
def State.setPulse (s : State) (l : Line) (p : Option Pulse) : State :=
  { s with gates := s.gates.set l p l.isLt }

/-- The gate line of a sort bin: GATE b for bin b (R127). -/
def lineOf (b : SortBin) : Line := b.succ

/-- A grade bank. -/
def State.bank (s : State) : BankId → Bank
  | .a => s.bankA
  | .b => s.bankB

/-- Changes a grade bank. -/
def State.modBank (s : State) (id : BankId) (f : Bank → Bank) : State :=
  match id with
  | .a => { s with bankA := f s.bankA }
  | .b => { s with bankB := f s.bankB }

/-- Changes a bank's lot counters. -/
def State.modCounts (s : State) (id : BankId) (f : LotCounts → LotCounts) : State :=
  s.modBank id fun k => { k with counts := f k.counts }

/-- The bank that is not `id`. -/
def otherBank : BankId → BankId
  | .a => .b
  | .b => .a

/-- The ACTIVE bank, if there is one (R81). -/
def activeBank (s : State) : Option BankId :=
  if s.bankA.state = .active then some .a else if s.bankB.state = .active then some .b else none

/-- A meter port. -/
def State.port (s : State) : PortId → MeterPort
  | .a => s.portA
  | .b => s.portB

/-- Changes a meter port. -/
def State.modPort (s : State) (id : PortId) (f : MeterPort → MeterPort) : State :=
  match id with
  | .a => { s with portA := f s.portA }
  | .b => { s with portB := f s.portB }

/-- Changes a meter port's diagnostic counters. -/
def State.modMeterCounts (s : State) (id : PortId) (f : MeterCounts → MeterCounts) : State :=
  s.modPort id fun m => { m with counts := f m.counts }

/-- Sets the operating state (R18). -/
def State.setOpState (s : State) (o : OpState) : State :=
  { s with ptk := { s.ptk with opState := o } }

/-- Changes the drift monitor. -/
def State.modDrm (s : State) (f : Drm → Drm) : State := { s with drm := f s.drm }

/-- Changes the trip controller. -/
def State.modTrc (s : State) (f : Trc → Trc) : State := { s with trc := f s.trc }

/-- Sets the hold list (R178). -/
def State.setHold (s : State) (h : List HoldEntry) : State :=
  { s with svl := { s.svl with hold := h } }

/-- All pocket numbers in ascending order. -/
def allPockets : List PocketNo := List.finRange 32

/-- The pockets 0 to P-1 of the configuration in force, in ascending order. -/
def ringPockets (s : State) : List PocketNo :=
  allPockets.filter fun p => decide (p.val < s.ptk.ring.pockets)

/-- The number of occupied pocket records (R26, Table 9.4). -/
def occupiedCount (s : State) : Nat :=
  (allPockets.filter fun p => (s.record p).isSome).length

/-- Whether a record is GRADED, with any bin. -/
def Part.isGraded (r : Part) : Bool :=
  match r.state with
  | .graded _ => true
  | _ => false

/-- The number of records in state GRADED (Table 9.4). -/
def gradedCount (s : State) : Nat :=
  (allPockets.filter fun p => (s.record p).any Part.isGraded).length

/-- The number of a bin, 0 to 15. -/
def Dest.number : Dest → Fin 16
  | .sweep => 0
  | .bin b => b.succ

/-- The code of a class, 0 to 8 (Table 5.4). -/
def PartClass.code : PartClass → Fin 9
  | .contactFail => 0
  | .openPart => 1
  | .shortPart => 2
  | .overrange => 3
  | .underrange => 4
  | .unstable => 5
  | .missing => 6
  | .noMatch => 7
  | .exhausted => 8

/-- The action a bank prescribes for a class (R84). -/
def Bank.action (k : Bank) (c : PartClass) : ClassAction := k.actions[c.code]

/-! ## Bins and gate pulses (spec/06, spec/07) -/

/-- Whether a pulse is running on a bin's gate line (R127). -/
def pulseRunning (s : State) (b : SortBin) : Bool := (s.pulse (lineOf b)).isSome

/-- The drain test: a DRAINING bin with reserved 0 and no running pulse becomes EXCHANGE and raises SWAP_READY (R119). -/
def drainTest (s : State) (b : SortBin) : State :=
  if (s.bin b).state = .draining ∧ (s.bin b).reserved = 0 ∧ pulseRunning s b = false then
    (s.setBin b { s.bin b with state := .exchange }).raise .swapReady
  else s

/-- Whether a bin grants a reservation (R111). -/
def BinRec.grants (r : BinRec) (override : Bool) : Bool :=
  match r.state with
  | .opened =>
    if override then decide (r.filled + r.reserved < r.capacity + r.margin)
    else decide (r.filled + r.reserved < r.capacity)
  | .full => override && decide (r.filled + r.reserved < r.capacity + r.margin)
  | _ => false

/-- A granted reservation: reserved rises by one, and an OPEN bin brought to its capacity becomes FULL and raises
BIN_FULL (R111, R112). -/
def grant (s : State) (b : SortBin) : State :=
  let r := s.bin b
  if r.state = .opened ∧ r.filled + r.reserved + 1 = r.capacity then
    (s.setBin b { r with reserved := r.reserved + 1, state := .full }).raise .binFull
  else s.setBin b { r with reserved := r.reserved + 1 }

/-- A reservation request: the state after the grant, or `none` when it is refused (R111). -/
def reserve (s : State) (b : SortBin) (override : Bool) : Option State :=
  if (s.bin b).grants override then some (grant s b) else none

/-- A release: reserved falls by one, and the drain test is made (R115). -/
def release (s : State) (b : SortBin) : State :=
  drainTest (s.setBin b { s.bin b with reserved := (s.bin b).reserved - 1 }) b

/-- A fire report: one part moves from reserved to filled, and the drain test is made (R114, R119). -/
def fireReport (s : State) (b : SortBin) : State :=
  drainTest (s.setBin b { s.bin b with filled := (s.bin b).filled + 1, reserved := (s.bin b).reserved - 1 }) b

/-- A gate line's sort bin; GATE0 has none (R127). -/
def binOfLine (l : Line) : Option SortBin :=
  if h : l.val = 0 then none else some (l.pred (fun e => h (by rw [e]; rfl)))

/-- The end of a running pulse: the timer becomes idle, and the end of a pulse on GATE 1 to 15 is reported to BNM, which
makes its drain test (R134, R135). An idle timer is left idle. -/
def endPulse (s : State) (l : Line) : State :=
  if (s.pulse l).isSome then
    match binOfLine l with
    | none => s.setPulse l none
    | some b => drainTest (s.setPulse l none) b
  else s

/-! ## Outstanding entries (spec/03) -/

/-- A record's result for a port's station (R40). -/
def Part.result (r : Part) : PortId → Option StationResult
  | .a => r.measure
  | .b => r.verify

/-- Writes a record's result for a port's station. -/
def Part.setResult (r : Part) (id : PortId) (x : StationResult) : Part :=
  match id with
  | .a => { r with measure := some x }
  | .b => { r with verify := some x }

/-- Replaces a port's outstanding list by what is left of it. The timer stops with an empty list and starts anew for an
entry that has become the oldest (R57); a waiting frame whose entry is gone leaves the queue (R47). -/
def MeterPort.setEntries (m : MeterPort) (es : List Outstanding) : MeterPort :=
  { m with
    entries := es,
    timer := if es = [] then none else if es.head? = m.entries.head? then m.timer else some m.timeoutMs,
    txQueue := m.txQueue.filter fun f => es.any fun e => e.seq == f.seq && e.pocket == f.pocket }

/-- The entries of a port's list that name a pocket. -/
def MeterPort.naming (m : MeterPort) (p : PocketNo) : List Outstanding :=
  m.entries.filter fun e => e.pocket == p

/-- Takes a pocket's entries off a port's list. -/
def MeterPort.without (m : MeterPort) (p : PocketNo) : MeterPort :=
  m.setEntries (m.entries.filter fun e => e.pocket != p)

/-- The decision arrival ends a pocket's entry on a port: expired rises, and no result is written (R55). -/
def expireEntry (s : State) (id : PortId) (p : PocketNo) : State :=
  if (s.port id).naming p = [] then s
  else
    s.modPort id fun m =>
      { m.without p with counts := { m.counts with expired := satAdd m.counts.expired (m.naming p).length } }

/-- Voiding or recirculation ends a pocket's entry on a port: lost rises, and the station result is LOST (R56). -/
def loseEntry (s : State) (id : PortId) (p : PocketNo) : State :=
  if (s.port id).naming p = [] then s
  else
    (s.modPort id fun m =>
      { m.without p with counts := { m.counts with lost := satAdd m.counts.lost (m.naming p).length } }).modPart p
      fun r => r.setResult id .lost

/-- A pocket's entries on both ports are lost (R7, R8). -/
def loseEntries (s : State) (p : PocketNo) : State :=
  loseEntry (loseEntry s .a p) .b p

/-! ## The hold list (spec/10) -/

/-- Takes a pocket off the hold list (R178). -/
def dropHold (s : State) (p : PocketNo) : State :=
  s.setHold (s.svl.hold.filter fun e => e.pocket != p)

/-! ## Voiding, recirculation marking and emptying (spec/01, R6 to R8) -/

/-- What voiding and marking hand off, by the state before (R7, R8): a reservation, a hold entry, or outstanding entries. -/
def handOff (s : State) (p : PocketNo) (st : PartState) : State :=
  match st with
  | .graded (.bin b) => release s b
  | .held => dropHold s p
  | .measuring => loseEntries s p
  | _ => s

/-- A voided record (R7). -/
def Part.voided (r : Part) : Part :=
  { r with state := .void, contact := none, measure := none, verify := none, deviation := none, grade := .ungraded }

/-- Voids a pocket's record (R7). A VOID record and an EMPTY pocket are left as they are. -/
def voidPocket (s : State) (p : PocketNo) : State :=
  match s.record p with
  | none => s
  | some r => if r.state = .void then s else (handOff s p r.state).modPart p Part.voided

/-- A record marked for recirculation (R8). -/
def Part.recirculated (r : Part) : Part :=
  { r with state := .recirc, deviation := none, grade := .ungraded }

/-- Marks a pocket's record for recirculation (R8). -/
def recircPocket (s : State) (p : PocketNo) : State :=
  match s.record p with
  | none => s
  | some r => (handOff s p r.state).modPart p Part.recirculated

/-- A departure report: the tagged bank's on-ring count falls by one, and a DRAINING bank whose count falls to 0 becomes
STANDBY and raises BANK_FREE (R6, R81, R94). A tag of NONE is reported to neither bank. -/
def departure (s : State) (tag : Option BankId) : State :=
  match tag with
  | none => s
  | some id =>
    let k := s.bank id
    if k.state = .draining ∧ k.onRing - 1 = 0 then
      (s.modBank id fun k => { k with onRing := k.onRing - 1, state := .standby }).raise .bankFree
    else s.modBank id fun k => { k with onRing := k.onRing - 1 }

/-- The completion test: while TRIPPED with the flag clear, an empty ring sets the action complete flag (R162). -/
def completionTest (s : State) : State :=
  if s.ptk.opState = .tripped ∧ s.trc.complete = false ∧ occupiedCount s = 0 then
    s.modTrc fun t => { t with complete := true }
  else s

/-- Empties a pocket's record: its departure is reported, then every field goes, and TRC learns that a record was
emptied (R6, R162). -/
def emptyPocket (s : State) (p : PocketNo) : State :=
  match s.record p with
  | none => s
  | some r => completionTest ((departure s r.tag).setRecord p none)

/-! ## The trip trigger (spec/09) -/

/-- The snapshot of the part at a trip (Table 9.4). -/
def snapshot (s : State) (c : Cause) : Snapshot :=
  { firstCause := c, causes := s.trc.causes, indexCount := s.ptk.indexCount, applied := s.drm.applied,
    target := s.drm.target, lastSample := s.drm.lastSample, occupied := occupiedCount s, graded := gradedCount s,
    bankA := s.bankA.state, bankB := s.bankB.state, portA := s.portA.state, portB := s.portB.state }

/-- The trip record after step 4 of a trigger: an EMPTY or READ record captures, a CAPTURED record gains the cause (R157). -/
def captureRecord (s : State) (c : Cause) : TripRecord :=
  match s.trc.record with
  | .captured snap => .captured { snap with causes := snap.causes.add c }
  | _ => .captured (snapshot s c)

/-- The trip action's treatment of one pocket (R159 to R161). -/
def tripPocket (a : TripAction) (s : State) (p : PocketNo) : State :=
  match s.record p with
  | none => s
  | some r =>
    match a, r.state with
    | .rejectAll, .graded (.bin _) => voidPocket s p
    | .rejectAll, .measuring => voidPocket s p
    | .rejectAll, .held => voidPocket s p
    | .keepGraded, .measuring => voidPocket s p
    | .keepGraded, .held => voidPocket s p
    | .recirculate, .graded _ => recircPocket s p
    | .recirculate, .measuring => recircPocket s p
    | .recirculate, .held => recircPocket s p
    | _, _ => s

/-- The trip action on the pockets 0 to P-1, in ascending order (R158). -/
def tripAction (s : State) : State :=
  (ringPockets s).foldl (tripPocket s.trc.config.action) s

/-- The trigger's first steps: TRIPPED, the cause, the count, the record and the TRIP flag (R156, steps 1 to 5). -/
def tripEntry (s : State) (c : Cause) : State :=
  let s1 := (s.setOpState .tripped).modTrc fun t =>
    { t with causes := t.causes.add c, count := satAdd t.count 1 }
  (s1.modTrc fun t => { t with record := captureRecord s1 c }).raise .trip

/-- The action complete flag as step 6 of a trigger leaves it (R162). -/
def completeAtTrigger (s : State) : Bool :=
  s.trc.config.action == .recirculate || occupiedCount s == 0

/-- A trip trigger with its cause, taken whole (R156). -/
def tripTrigger (s : State) (c : Cause) : State :=
  let s1 := tripAction (tripEntry s c)
  s1.modTrc fun t => { t with complete := completeAtTrigger s1 }

/-- Recirculation is in force: TRIPPED with the action RECIRCULATE (R95, R161). -/
def recirculating (s : State) : Bool :=
  s.ptk.opState == .tripped && s.trc.config.action == .recirculate

/-! ## Reports to the classifier (spec/05) -/

/-- A load report: the tagged bank's loaded and on-ring counts rise; a tag of NONE raises the untracked load counter
(R15, R16, R81, R104). -/
def loadReport (s : State) (tag : Option BankId) : State :=
  match tag with
  | none => { s with ptk := { s.ptk with untracked := satAdd s.ptk.untracked 1 } }
  | some id =>
    s.modBank id fun k => { k with onRing := k.onRing + 1, counts := { k.counts with loaded := k.counts.loaded + 1 } }

/-- Whether a record's exit counts as good (R105). -/
def Part.exitsGood (r : Part) (k : Bank) : Bool :=
  match r.kind, r.state, r.grade with
  | .product, .graded _, .byEntry _ => true
  | .product, .graded _, .byClass c => (k.action c).good
  | _, _, _ => false

/-- The lot counters after an exit report for record `r` at bin `line` (R105). -/
def LotCounts.exited (n : LotCounts) (k : Bank) (r : Part) (line : Line) : LotCounts :=
  { n with
    exits := n.exits.set line (n.exits[line] + 1) line.isLt,
    good := if r.exitsGood k then n.good + 1 else n.good,
    referenceExits := if r.kind = .reference then n.referenceExits + 1 else n.referenceExits,
    verdictsExpired := if r.kind = .product ∧ r.state = .held then n.verdictsExpired + 1 else n.verdictsExpired }

/-- An exit report for a record at a bin (R105); a tag of NONE is reported to no bank. -/
def exitReport (s : State) (r : Part) (line : Line) : State :=
  match r.tag with
  | none => s
  | some id => s.modBank id fun k => { k with counts := k.counts.exited k r line }

end Sys2Proof.Machine
end

