-- ==== Sys2Proof/Machine/Link.lean ====
section
/-! DEFINITION. The supervisor link's transactions (spec/10, section 10.1): how a request arrives and how its response waits. -/

namespace Sys2Proof.Machine

/-- The code of a status (Table 10.2). -/
def Status.code : Status → Byte
  | .ok => 0x00
  | .unknown => 0x01
  | .badLength => 0x02
  | .badValue => 0x03
  | .wrongState => 0x04
  | .condition => 0x05
  | .tooLate => 0x06
  | .notHeld => 0x07
  | .unavailable => 0x08
  | .invalidSet => 0x09

/-- The bytes of a response on SDO: opcode, status, length, payload (R172, Table 10.7). -/
def Response.bytes (r : Response) : List Byte :=
  r.opcode :: r.status.code :: BitVec.ofNat 8 r.payload.length :: r.payload

/-- The bit of a response at a bit place on SDO: its bytes, most significant bit first, then 0x00 for every further byte
(R170, R172). -/
def Response.bit (r : Response) (i : Nat) : Bool :=
  ((bitsOf ((r.bytes[i / 8]?).getD 0))[i % 8]?).getD false

/-- The level SDO carries at a bit place, the first one presented at the fall of nSCS; `none` while SDO is high-impedance.
SDO is driven while nSCS is active; before the first rise of nSCS after a release its level is a free value (R170; log
entry 29). -/
def sdoBit (s : State) (i : Nat) : Option Bool :=
  if s.ttp.held then none
  else if s.svl.ignoring then some (Config.ignoredSdo i)
  else s.svl.outgoing.map fun r => r.bit i

/-- The byte SDO carries at a byte place: its eight bits, most significant first (R170, R172). -/
def sdoByte (s : State) (n : Nat) : Option Byte :=
  if (sdoBit s (8 * n)).isSome then
    some (byteOfBits ((List.range 8).map fun j => (sdoBit s (8 * n + j)).getD false))
  else none

/-- What an owner answers to a request: a status and a payload. -/
structure Reply where
  status : Status
  payload : List Byte
  deriving DecidableEq, Repr

/-- An answer OK with a payload. -/
def okWith (payload : List Byte) : Reply := ⟨.ok, payload⟩

/-- A refusal, or an answer OK, without a payload (R174). -/
def bare (st : Status) : Reply := ⟨st, []⟩

/-- Whether the link takes a request or a NOP now: no reset is held, nSCS has risen since the release, and no opcode
byte has been taken in the open transaction (R170, R171). -/
def takesRequest (s : State) : Bool :=
  !s.ttp.held && !s.svl.ignoring && !(s.svl.outgoing.isSome && s.svl.taken)

/-- The response built at a request's arrival. In an open transaction it waits as the next response (R172, step 2); a
request command with no transaction open stands for its whole transaction, at whose end its response is pending (log
entry 8). -/
def Svl.answer (v : Svl) (r : Response) : Svl :=
  if v.outgoing.isSome then { v with next := some r, taken := true } else { v with pending := r }

/-- The response to a request is built and held. -/
def State.answer (s : State) (op : Byte) (r : Reply) : State :=
  { s with svl := s.svl.answer ⟨op, r.status, r.payload⟩ }

/-- Whether a body has the length Table 10.9 gives the opcode, with all its bytes (R171, R187). -/
def fitsLength (op : Byte) (b : Body) : Bool :=
  requestLength op == some b.len.toNat && decide (b.len.toNat ≤ b.bytes.length)

/-- A request's arrival: a wrong or oversized length, or a truncated request, is answered BAD_LENGTH; otherwise the
owner takes the payload (R171, cases 3 and 4). The owner's function gives the state it leaves and its answer. -/
def request (op : Byte) (b : Body) (owner : List Byte → State → State × Reply) (s : State) : State :=
  if takesRequest s then
    if fitsLength op b then
      let out := owner (b.bytes.take b.len.toNat) s
      out.1.answer op out.2
    else s.answer op (bare .badLength)
  else s

/-- A refusal that changes nothing (R174). -/
def refuse (s : State) (st : Status) : State × Reply := (s, bare st)

/-- A falling nSCS: the pending response becomes the outgoing response (R172, step 1). -/
def transactionStart (s : State) : State :=
  if s.ttp.held || s.svl.ignoring || s.svl.outgoing.isSome then s
  else
    { s with svl := { s.svl with outgoing := some s.svl.pending, next := none, taken := false, collected := none } }

/-- The body that has arrived in the bytes after a transaction's opcode: at the length byte when L is above 62, at the last
payload byte otherwise; `none` for a truncated request. Bytes after these are ignored (R171). -/
def arrivedBody : List Byte → Option Body
  | [] => none
  | len :: rest =>
    if 62 < len.toNat then some ⟨len, []⟩
    else if len.toNat ≤ rest.length then some ⟨len, rest.take len.toNat⟩
    else none

/-- A rising nSCS: the next response, or a NOP response where no request arrived, becomes pending. `clocked` is how many
bits were clocked out on SDO, and an outgoing response cut short of its bytes is lost (R172 step 3, R173). -/
def Svl.ended (v : Svl) (out : Response) (clocked : Nat) : Svl :=
  { v with
    outgoing := none
    pending := v.next.getD .nop
    next := none
    taken := false
    collected := if 8 * out.bytes.length ≤ clocked then some out else none }

/-- A NOP: no request is made, and the transaction's response will be a NOP response (R171, R172, R175). -/
def nopRequest (s : State) : State :=
  if takesRequest s then
    if s.svl.outgoing.isSome then { s with svl := { s.svl with taken := true } }
    else { s with svl := { s.svl with pending := .nop } }
  else s

end Sys2Proof.Machine
end

