-- ==== Sys2Proof/Machine/Operands.lean ====
section
/-! DEFINITION. The operand forms: the values in request payloads (Tables 10.8 and 10.10), each with its range check, and
the fields of a RESULT frame (Table 10.6). -/

namespace Sys2Proof.Machine

/-- A flag: 0 off, 1 on (Table 10.8). -/
def flagOf (b : Byte) : Option Bool :=
  if b = 0 then some false else if b = 1 then some true else none

/-- A bank in a request: 1 A, 2 B (Table 10.8). -/
def bankOf (b : Byte) : Option BankId :=
  if b = 1 then some .a else if b = 2 then some .b else none

/-- A port in a request: 1 A, 2 B (Table 10.8). -/
def portOf (b : Byte) : Option PortId :=
  if b = 1 then some .a else if b = 2 then some .b else none

/-- A sort bin, 1 to 15. -/
def sortBinOf (b : Byte) : Option SortBin :=
  if h : 1 ≤ b.toNat ∧ b.toNat ≤ 15 then some ⟨b.toNat - 1, by omega⟩ else none

/-- A bin, 0 to 15. -/
def destOf (b : Byte) : Option Dest :=
  if b = 0 then some .sweep else (sortBinOf b).map .bin

/-- A class code, 0 to 8 (Table 5.4). -/
def classOf (b : Byte) : Option (Fin 9) :=
  if h : b.toNat < 9 then some ⟨b.toNat, h⟩ else none

/-- An entry number, 0 to 15. -/
def entryNoOf (b : Byte) : Option (Fin 16) :=
  if h : b.toNat < 16 then some ⟨b.toNat, h⟩ else none

/-- A class action kind: 0 BIN, 1 RETEST, 2 HOLD (Table 10.8). -/
def actionKindOf (b : Byte) : Option ActionKind :=
  if b = 0 then some .bin else if b = 1 then some .retest else if b = 2 then some .hold else none

/-- A trip action: 0 REJECT_ALL, 1 KEEP_GRADED, 2 RECIRCULATE (Table 10.8). -/
def tripActionOf (b : Byte) : Option TripAction :=
  if b = 0 then some .rejectAll else if b = 1 then some .keepGraded else if b = 2 then some .recirculate else none

/-- An auxiliary function code, 0 to 7 (Table 2.2). -/
def auxFnOf (b : Byte) : Option AuxFn :=
  [AuxFn.off, .ready, .refReq, .drift, .tripped, .anyFull, .holdWait, .meterFault][b.toNat]?

/-- A verdict kind: 0 BIN, 1 RETEST (Table 10.8). -/
inductive VerdictKind where
  | bin | retest
  deriving DecidableEq, Repr

/-- Reads a verdict kind (Table 10.8). -/
def verdictKindOf (b : Byte) : Option VerdictKind :=
  if b = 0 then some .bin else if b = 1 then some .retest else none

/-- A part of a bank for READ_BANK: 0 LOT, 1 ENTRY, 2 CLASSES (Table 10.8). -/
inductive BankPart where
  | lot | entry | classes
  deriving DecidableEq, Repr

/-- Reads a READ_BANK part (Table 10.8). -/
def bankPartOf (b : Byte) : Option BankPart :=
  if b = 0 then some .lot else if b = 1 then some .entry else if b = 2 then some .classes else none

/-- A pocket number below P. -/
def pocketOf (s : State) (b : Byte) : Option PocketNo :=
  if h : b.toNat < 32 then if b.toNat < s.ptk.ring.pockets then some ⟨b.toNat, h⟩ else none else none

/-- The 22 bytes of SET_RING: P, C, S2, S3, D, G1 to G15, W, pulse width (R188). -/
def ringOf (p : List Byte) : Ring :=
  let x := fun i => (p[i]?.getD 0).toNat
  { pockets := x 0, contact := x 1, measure := x 2, verify := x 3, decision := x 4,
    gates := #v[x 5, x 6, x 7, x 8, x 9, x 10, x 11, x 12, x 13, x 14, x 15, x 16, x 17, x 18, x 19],
    sweep := x 20, pulseWidth := x 21 }

/-- SET_RING's value conditions (R22). -/
def Ring.valid (r : Ring) : Bool :=
  decide (12 ≤ r.pockets) && decide (r.pockets ≤ 32) &&
  decide (r.contact < r.pockets) &&
  decide (1 ≤ r.measure) && decide (r.measure < r.pockets) &&
  decide (1 ≤ r.verify) && decide (r.verify < r.pockets) &&
  decide (1 ≤ r.decision) && decide (r.decision < r.pockets) &&
  r.gates.toList.all (fun g => decide (1 ≤ g) && decide (g < r.pockets)) &&
  decide (1 ≤ r.sweep) && decide (r.sweep < r.pockets) &&
  decide (1 ≤ r.pulseWidth) && decide (r.pulseWidth ≤ 255) &&
  decide (r.contact < r.measure) && decide (r.measure < r.decision) && decide (r.verify < r.decision) &&
  r.gates.toList.all (fun g => decide (r.decision < g) && decide (g < r.sweep))

/-- Whether lot parameters lie within the ranges of Table 5.3. -/
def Lot.inRange (l : Lot) : Bool :=
  decide (1000000 ≤ l.nominal) && decide (l.nominal ≤ 9999999) &&
  decide (-3 ≤ l.exponent) && decide (l.exponent ≤ 6) &&
  decide (-2000 ≤ l.tcr) && decide (l.tcr ≤ 2000) &&
  decide (-4000 ≤ l.tref) && decide (l.tref ≤ 15000) &&
  decide (l.guardBand ≤ 5000) &&
  decide (1 ≤ l.agreement) && decide (l.agreement ≤ 10000) &&
  decide (l.retestLimit ≤ 3) &&
  decide (-999999 ≤ l.refCertified) && decide (l.refCertified ≤ 999999) &&
  decide (-2000 ≤ l.refTcr) && decide (l.refTcr ≤ 2000)

/-- The lot parameters of WRITE_LOT, offsets 1 to 20, or `none` when a value is out of range (R86, R188). -/
def lotOf (p : List Byte) : Option Lot :=
  match p with
  | [n2, n1, n0, f, c1, c0, t1, t0, g1, g0, ve, a1, a0, rl, d2, d1, d0, k1, k0, rb] =>
    match flagOf ve, sortBinOf rb with
    | some ve, some rb =>
      let l : Lot :=
        { nominal := natOf [n2, n1, n0], exponent := intOf [f], tcr := intOf [c1, c0], tref := intOf [t1, t0],
          guardBand := natOf [g1, g0], verify := ve, agreement := natOf [a1, a0], retestLimit := rl.toNat,
          refCertified := intOf [d2, d1, d0], refTcr := intOf [k1, k0], refBin := rb }
      if l.inRange then some l else none
    | _, _ => none
  | _ => none

/-- Spill bins as sort bins, or `none` when one lies outside 1 to 15 (R87). -/
def spillOf : List Byte → Option (List SortBin)
  | [] => some []
  | b :: bs =>
    match sortBinOf b, spillOf bs with
    | some x, some xs => some (x :: xs)
    | _, _ => none

/-- Whether a window entry's fields lie within their ranges (R83, R87). -/
def WindowEntry.inRange (w : WindowEntry) : Bool :=
  decide (-999999 ≤ w.lower) && decide (w.upper ≤ 999999) && decide (w.lower ≤ w.upper) &&
  decide (w.spill.length ≤ 3) && decide w.spill.Nodup && !w.spill.contains w.primary

/-- The window entry of WRITE_ENTRY, offsets 2 to 13, or `none` when a value is refused (R87, R188). Spill bytes beyond
the count are not looked at. -/
def entryOf (p : List Byte) : Option WindowEntry :=
  match p with
  | [v, l2, l1, l0, u2, u1, u0, pb, n, s1, s2, s3] =>
    match flagOf v, sortBinOf pb, spillOf ([s1, s2, s3].take n.toNat) with
    | some v, some pb, some sp =>
      let w : WindowEntry :=
        { valid := v, lower := intOf [l2, l1, l0], upper := intOf [u2, u1, u0], primary := pb, spill := sp }
      if n.toNat ≤ 3 ∧ w.inRange then some w else none
    | _, _, _ => none
  | _ => none

/-- The class action of WRITE_CLASS, offsets 2 to 5 (R88, R188). -/
def classActionOf (k b o g : Byte) : Option ClassAction :=
  match actionKindOf k, destOf b, flagOf o, flagOf g with
  | some k, some d, some o, some g => some { kind := k, dest := d, override := o, good := g }
  | _, _, _, _ => none

/-- Whether drift parameters lie within the ranges of Table 8.2. -/
def DriftConfig.inRange (c : DriftConfig) : Bool :=
  decide (1 ≤ c.step) && decide (c.step ≤ 255) && decide (1 ≤ c.period) && decide (c.period ≤ 64) &&
  decide (c.hysteresis ≤ 1000) && decide (1 ≤ c.alarmLimit) && decide (c.alarmLimit ≤ 10000) &&
  decide (c.interval ≤ 65535)

/-- The five parameters of SET_DRIFT, or `none` when one is out of range (R151, R188). -/
def driftConfigOf (p : List Byte) : Option DriftConfig :=
  match p with
  | [st, k, h1, h0, a1, a0, i1, i0] =>
    let c : DriftConfig :=
      { step := st.toNat, period := k.toNat, hysteresis := natOf [h1, h0], alarmLimit := natOf [a1, a0],
        interval := natOf [i1, i0] }
    if c.inRange then some c else none
  | _ => none

/-- The three items of SET_TRIP, or `none` when one is out of range (R168, R188). -/
def tripConfigOf (a h m : Byte) : Option TripConfig :=
  match tripActionOf a, flagOf h, flagOf m with
  | some a, some h, some m => some { action := a, halt := h, onMeterFault := m }
  | _, _, _ => none

/-- The fields of a complete RESULT frame (Table 10.6). -/
structure ResultFrame where
  kind : Byte
  seq : Byte
  pocket : Byte
  status : Byte
  mantissa : Nat
  exponent : Int
  temperature : Int
  deriving DecidableEq, Repr

/-- Reads the fields of a complete frame of 13 bytes, whatever its CRC (Table 10.6). -/
def resultFrameOf (bs : List Byte) : Option ResultFrame :=
  match bs with
  | [_, k, q, p, st, m2, m1, m0, e, t1, t0, _, _] =>
    some { kind := k, seq := q, pocket := p, status := st, mantissa := natOf [m2, m1, m0], exponent := intOf [e],
           temperature := intOf [t1, t0] }
  | _ => none

/-- Whether the CRC over offsets 1 to 10 of a frame equals its last two bytes (R49, R185). -/
def crcGood (bs : List Byte) : Bool :=
  bytesOf 2 (crc16 ((bs.drop 1).take 10)).toNat == bs.drop 11

/-- The bytes of a TRIGGER frame (Table 10.5, R185). -/
def TriggerFrame.bytes (f : TriggerFrame) : List Byte :=
  let body := [0x54#8, f.seq, BitVec.ofNat 8 f.pocket.val] ++ signedBytesOf 1 f.exponent
  0xA5#8 :: body ++ bytesOf 2 (crc16 body).toNat

/-- The levels of a TRIGGER frame on the transmit line, byte by byte, each with its stop bit at the mark level (R184). -/
def TriggerFrame.levels (f : TriggerFrame) : List Bool := f.bytes.flatMap fun b => charLevels b true

end Sys2Proof.Machine
end

