-- ==== Sys2Proof/Machine/Replies.lean ====
section
/-! DEFINITION. The response payloads (Tables 10.8 and 10.11) and the codes they are written with. -/

namespace Sys2Proof.Machine

/-- A natural number as one byte. -/
def byte (n : Nat) : Byte := BitVec.ofNat 8 n

/-- A flag as one byte (Table 10.8). -/
def flagByte (b : Bool) : Byte := if b then 1 else 0

/-- A presence indication (Table 10.8). -/
def present {α : Type} (o : Option α) : Byte := flagByte o.isSome

/-- Several Booleans as bits, bit 0 first. -/
def bitsByte (bs : List Bool) : Byte :=
  byte (bs.foldr (fun b acc => (if b then 1 else 0) + 2 * acc) 0)

/-- The code of the operating state (Table 10.8). -/
def OpState.code : OpState → Byte
  | .idle => 0
  | .run => 1
  | .tripped => 2

/-- The code of a bank state (Table 10.8). -/
def BankState.code : BankState → Byte
  | .standby => 0
  | .active => 1
  | .draining => 2

/-- The code of a bin state (Table 10.8). -/
def BinState.code : BinState → Byte
  | .closed => 0
  | .opened => 1
  | .full => 2
  | .draining => 3
  | .exchange => 4

/-- The code of a port state (Table 10.8). -/
def PortState.code : PortState → Byte
  | .online => 0
  | .faulted => 1
  | .absent => 2

/-- The code of a bank tag (Table 10.8). -/
def tagCode : Option BankId → Byte
  | none => 0
  | some .a => 1
  | some .b => 2

/-- The code of a meter port (Table 10.8). -/
def portCode : PortId → Byte
  | .a => 1
  | .b => 2

/-- The code of an occupied record's state (Table 10.8); EMPTY is 0. -/
def PartState.code : PartState → Byte
  | .measuring => 1
  | .graded _ => 2
  | .held => 3
  | .retest => 4
  | .recirc => 5
  | .void => 6

/-- The code of a part's kind (Table 10.8). -/
def PartKind.code : PartKind → Byte
  | .product => 0
  | .reference => 1

/-- The code of a contact verdict (Table 10.8). -/
def contactCode : Option Contact → Byte
  | none => 0
  | some .pass => 1
  | some .fail => 2

/-- The code of a class action kind (Table 10.8). -/
def ActionKind.code : ActionKind → Byte
  | .bin => 0
  | .retest => 1
  | .hold => 2

/-- The code of a trip action (Table 10.8). -/
def TripAction.code : TripAction → Byte
  | .rejectAll => 0
  | .keepGraded => 1
  | .recirculate => 2

/-- The code of a cause (Table 10.8). -/
def Cause.code : Cause → Byte
  | .drift => 0
  | .meterA => 1
  | .meterB => 2
  | .slip => 3
  | .safe => 4
  | .command => 5

/-- The code of an auxiliary function (Table 2.2). -/
def AuxFn.code : AuxFn → Byte
  | .off => 0
  | .ready => 1
  | .refReq => 2
  | .drift => 3
  | .tripped => 4
  | .anyFull => 5
  | .holdWait => 6
  | .meterFault => 7

/-- A cause set as one byte (Table 10.8). -/
def CauseSet.byte (c : CauseSet) : Byte :=
  bitsByte [c.drift, c.meterA, c.meterB, c.slip, c.safe, c.command]

/-- Attention flags as one byte (Table 10.8). -/
def Attention.byte (a : Attention) : Byte :=
  bitsByte [a.holdWaiting, a.binFull, a.swapReady, a.bankFree, a.driftAlarm, a.refOverdue, a.meterFault, a.trip]

/-- A station result's 7 bytes: status, mantissa, exponent, temperature (Table 10.11, offsets 9 to 15). -/
def resultBytes : Option StationResult → List Byte
  | none => [0, 0, 0, 0, 0, 0, 0]
  | some (.ok m e t) => [1] ++ bytesOf 3 m ++ signedBytesOf 1 e ++ signedBytesOf 2 t
  | some .openCircuit => [2, 0, 0, 0, 0, 0, 0]
  | some .short => [3, 0, 0, 0, 0, 0, 0]
  | some .overload => [4, 0, 0, 0, 0, 0, 0]
  | some .invalid => [5, 0, 0, 0, 0, 0, 0]
  | some .skipped => [6, 0, 0, 0, 0, 0, 0]
  | some .lost => [7, 0, 0, 0, 0, 0, 0]

/-- A deviation's 4 bytes: the presence and saturated bits, and the value (Table 10.11, offsets 23 to 26). -/
def deviationBytes : Option Deviation → List Byte
  | none => [0, 0, 0, 0]
  | some d => [bitsByte [true, d.saturated]] ++ signedBytesOf 3 d.ppm

/-- The class and entry bytes of a record, 0xFF when absent (Table 10.11, offsets 27 and 28). -/
def gradeBytes : Grade → List Byte
  | .ungraded => [0xFF, 0xFF]
  | .byClass c => [byte c.code.val, 0xFF]
  | .byEntry e => [0xFF, byte e.val]

/-- The bin byte of a record's state: 0xFF unless GRADED (Table 10.11, offset 29). -/
def destByte : PartState → Byte
  | .graded d => byte d.number.val
  | _ => 0xFF

/-- The pocket record of 30 bytes (R189). Of an EMPTY record the class, the entry and the bin are all sent as 0xFF: Table 10.11
gives 0xFF for each of the three fields, and Table 10.8 names it for the class alone (DEDUCED, log entry 28). -/
def recordBytes : Option Part → List Byte
  | none => [0, 0, 0, 0, 0, 0, 0, 0, 0] ++ resultBytes none ++ resultBytes none ++ deviationBytes none ++ [0xFF, 0xFF, 0xFF]
  | some r =>
    [r.state.code] ++ bytesOf 4 r.serial.toNat ++ [tagCode r.tag, r.kind.code, byte r.retests, contactCode r.contact]
      ++ resultBytes r.measure ++ resultBytes r.verify ++ deviationBytes r.deviation ++ gradeBytes r.grade
      ++ [destByte r.state]

/-- The ring configuration in SET_RING order (R188). -/
def ringBytes (r : Ring) : List Byte :=
  [byte r.pockets, byte r.contact, byte r.measure, byte r.verify, byte r.decision]
    ++ r.gates.toList.map byte ++ [byte r.sweep, byte r.pulseWidth]

/-- The lot parameters as WRITE_LOT offsets 1 to 20 (Table 10.10). -/
def lotBytes (l : Lot) : List Byte :=
  bytesOf 3 l.nominal ++ signedBytesOf 1 l.exponent ++ signedBytesOf 2 l.tcr ++ signedBytesOf 2 l.tref
    ++ bytesOf 2 l.guardBand ++ [flagByte l.verify] ++ bytesOf 2 l.agreement ++ [byte l.retestLimit]
    ++ signedBytesOf 3 l.refCertified ++ signedBytesOf 2 l.refTcr ++ [byte (l.refBin.val + 1)]

/-- A window entry as WRITE_ENTRY offsets 2 to 13; spill bins beyond the count are 0 (Tables 10.10, 10.11). -/
def entryBytes (w : WindowEntry) : List Byte :=
  [flagByte w.valid] ++ signedBytesOf 3 w.lower ++ signedBytesOf 3 w.upper ++ [byte (w.primary.val + 1), byte w.spill.length]
    ++ ((w.spill.map fun b : SortBin => byte (b.val + 1)) ++ [0, 0, 0]).take 3

/-- A class action as WRITE_CLASS offsets 2 to 5 (Table 10.10). -/
def actionBytes (a : ClassAction) : List Byte :=
  [a.kind.code, byte a.dest.number.val, flagByte a.override, flagByte a.good]

/-- The drift parameters as SET_DRIFT offsets 0 to 7 (Table 10.10). -/
def driftConfigBytes (c : DriftConfig) : List Byte :=
  [byte c.step, byte c.period] ++ bytesOf 2 c.hysteresis ++ bytesOf 2 c.alarmLimit ++ bytesOf 2 c.interval

/-- The trip configuration as the SET_TRIP payload (Table 10.10). -/
def tripConfigBytes (c : TripConfig) : List Byte :=
  [c.action.code, flagByte c.halt, flagByte c.onMeterFault]

/-- A sample with its presence indication: 4 bytes (Table 10.11). -/
def sampleBytes (v : Option Int) : List Byte :=
  present v :: signedBytesOf 3 (v.getD 0)

/-- READ_POCKET's payload of 33 bytes (R25, Table 10.11). -/
def pocketPayload (s : State) (p : PocketNo) : List Byte :=
  [byte p.val, byte s.ptk.loadPointer, byte (offsetOf s p)] ++ recordBytes (s.record p)

/-- READ_HOLD's payload of 1 or 38 bytes (R179, Table 10.11). -/
def holdPayload (s : State) : List Byte :=
  match s.svl.hold with
  | [] => [0]
  | e :: _ =>
    [byte s.svl.hold.length, byte e.pocket.val] ++ bytesOf 4 e.serial.toNat
      ++ [byte e.cls.code.val, byte (offsetOf s e.pocket)] ++ recordBytes (s.record e.pocket)

/-- VERDICT's payload of 5 bytes from the state after the request (R181, Table 10.11). -/
def verdictPayload (s : State) (p : PocketNo) : List Byte :=
  [byte p.val, byte (offsetOf s p)]
    ++ (match s.record p with
        | none => [0, 0xFF]
        | some r => [r.state.code, destByte r.state])
    ++ [byte s.svl.hold.length]

/-- READ_BIN's payload of 12 bytes (R126, Table 10.11). -/
def binPayload (s : State) (b : SortBin) : List Byte :=
  let r := s.bin b
  [byte (b.val + 1), r.state.code] ++ bytesOf 2 r.capacity ++ [byte r.margin] ++ bytesOf 3 r.filled
    ++ [byte r.reserved] ++ bytesOf 2 r.boxSeq.toNat ++ [flagByte (pulseRunning s b)]

/-- IDENTIFY's payload of 8 bytes (R175, Table 10.11). -/
def identifyPayload (s : State) : List Byte :=
  [0x0A, 0xB5, 0x00, 0x41, 1, if s.ttp.mportsTwo then 2 else 1, flagByte s.ttp.gpolHigh,
   match s.ttp.restartCause with
   | .powerOn => 0
   | .resetLine => 1]

/-- READ_DEVICE_COUNTS' payload of 37 bytes (R26, Table 10.11). -/
def deviceCountsPayload (s : State) : List Byte :=
  [s.ptk.opState.code] ++ ringBytes s.ptk.ring ++ [byte s.ptk.loadPointer] ++ bytesOf 4 s.ptk.indexCount.toNat
    ++ bytesOf 4 s.ptk.serial.toNat ++ bytesOf 2 s.ptk.conflicts.toNat ++ bytesOf 2 s.ptk.untracked.toNat
    ++ [byte (occupiedCount s)]

/-- SET_AUX's payload: the four codes in force (R36). -/
def auxPayload (s : State) : List Byte := s.ttp.aux.toList.map AuxFn.code

/-- One entry slot of READ_METER: sequence, pocket, age (Table 10.11). -/
def slotBytes : Option Outstanding → List Byte
  | none => [0, 0, 0, 0]
  | some e => [e.seq, byte e.pocket.val] ++ bytesOf 2 (min 2550 e.age)

/-- READ_METER's payload of 43 bytes (R61, Table 10.11). -/
def meterPayload (s : State) (id : PortId) : List Byte :=
  let m := s.port id
  let n := m.counts
  [portCode id, m.state.code, m.seq, byte m.timeoutMs, byte (m.timer.getD 0), byte m.entries.length]
    ++ slotBytes m.entries[0]? ++ slotBytes m.entries[1]? ++ slotBytes m.entries[2]? ++ slotBytes m.entries[3]?
    ++ [present m.held] ++ signedBytesOf 2 (m.held.getD 0)
    ++ [n.sent, n.taken, n.crcErrors, n.formatErrors, n.stray, n.lost, n.skipped, n.expired, n.timeouts].flatMap
        fun c => bytesOf 2 c.toNat

/-- READ_BANK's payload for one part (R90, Table 10.11). -/
def bankPayload (k : Bank) (part : BankPart) (e : Fin 16) : List Byte :=
  k.state.code ::
    match part with
    | .lot => lotBytes k.lot
    | .entry => byte e.val :: entryBytes k.entries[e]
    | .classes => k.actions.toList.flatMap actionBytes

/-- READ_LOT_COUNTS' payload of 126 bytes (R106, Table 10.11). -/
def lotCountsPayload (k : Bank) : List Byte :=
  let n := k.counts
  [k.state.code, byte k.onRing] ++ bytesOf 4 n.loaded.toNat ++ n.exits.toList.flatMap (fun c => bytesOf 4 c.toNat)
    ++ bytesOf 4 n.cleared.toNat ++ bytesOf 4 n.good.toNat ++ bytesOf 4 n.referenceExits.toNat
    ++ n.classes.toList.flatMap (fun c => bytesOf 4 c.toNat) ++ bytesOf 4 n.retestRevs.toNat
    ++ bytesOf 4 n.verdictsExpired.toNat

/-- READ_DRIFT's payload of 25 bytes (R152, Table 10.11). -/
def driftPayload (d : Drm) : List Byte :=
  driftConfigBytes d.config ++ signedBytesOf 2 d.target ++ signedBytesOf 2 d.applied ++ [byte d.periodCount]
    ++ sampleBytes d.lastSample ++ [flagByte d.latch] ++ bytesOf 2 d.overdueCount.toNat ++ [flagByte d.overdueFlag]
    ++ bytesOf 2 d.samples.toNat ++ bytesOf 2 d.badRefs.toNat

/-- The 20 bytes of a trip record's fields, offsets 7 to 26 of READ_TRIP (Table 10.11). -/
def snapshotBytes (n : Snapshot) : List Byte :=
  [n.firstCause.code, n.causes.byte] ++ bytesOf 4 n.indexCount.toNat ++ signedBytesOf 2 n.applied
    ++ signedBytesOf 2 n.target ++ sampleBytes n.lastSample
    ++ [byte n.occupied, byte n.graded, n.bankA.code, n.bankB.code, n.portA.code, n.portB.code]

/-- A trip record with its state, offsets 6 to 26 of READ_TRIP (R167, Table 10.11). -/
def tripRecordBytes : TripRecord → List Byte
  | .empty => [0, 0xFF] ++ List.replicate 19 0
  | .captured n => 1 :: snapshotBytes n
  | .read n => 2 :: snapshotBytes n

/-- READ_TRIP's payload of 29 bytes (R167, Table 10.11). -/
def tripPayload (s : State) : List Byte :=
  [flagByte (s.ptk.opState == .tripped), s.trc.causes.byte, flagByte s.trc.complete] ++ tripConfigBytes s.trc.config
    ++ tripRecordBytes s.trc.record ++ bytesOf 2 s.trc.count.toNat

end Sys2Proof.Machine
end

