-- ==== Sys2Proof/Machine/Drift.lean ====
section
/-! DEFINITION. The Drift Monitor (spec/08): samples, slew, overdue accounting, and its requests. -/

namespace Sys2Proof.Machine

/-- What every meaning answers. -/
abbrev Answer := Host.Outcome State Fault Refusal

/-- An event that the ports take only while no reset is held (R27, R37; log entry 13). -/
def whileRunning (s : State) (f : State → State) : State :=
  if s.ttp.held then s else f s

/-- An offset bounded to -10,000 to +10,000 (R140). -/
def boundOffset (v : Int) : Int :=
  if v < -10000 then -10000 else if 10000 < v then 10000 else v

/-- The drift monitor after parts 1 to 3 of a sample arrival (R139, R140). -/
def Drm.sampled (d : Drm) (v : Int) : Drm :=
  { d with
    lastSample := some v,
    samples := satAdd d.samples 1,
    target := if d.config.hysteresis < (v - d.target).natAbs then boundOffset v else d.target,
    overdueCount := 0,
    overdueFlag := false }

/-- A sample arrival: the sample is recorded, and beyond the alarm limit the latch is set, DRIFT_ALARM is raised and a
trip trigger with cause DRIFT follows (R139 to R141). -/
def sampleArrival (s : State) (v : Int) : State :=
  let s1 := s.modDrm fun d => d.sampled v
  if s.drm.config.alarmLimit < v.natAbs then
    tripTrigger ((s1.modDrm fun d => { d with latch := true }).raise .driftAlarm) .drift
  else s1

/-- A bad reference report: only its count rises (R142). -/
def badReference (s : State) : State :=
  s.modDrm fun d => { d with badRefs := satAdd d.badRefs 1 }

/-- One step of the applied offset toward the target, never past it (R143). -/
def slew (step : Nat) (applied target : Int) : Int :=
  if applied < target then applied + min (step : Int) (target - applied)
  else applied - min (step : Int) (applied - target)

/-- A period wrap: the counter is reset and the applied offset moves (R143). -/
def Drm.wrapped (d : Drm) : Drm :=
  { d with periodCount := 0, applied := slew d.config.step d.applied d.target }

/-- Whether an index arrival now would be a period wrap: the counter, raised by one, reaches the period in force (R143). -/
def Drm.wraps (d : Drm) : Bool := decide (d.config.period ≤ d.periodCount + 1)

/-- The drift monitor's count of an index arrival (R143). -/
def Drm.counted (d : Drm) : Drm :=
  if d.wraps then d.wrapped else { d with periodCount := d.periodCount + 1 }

/-- Whether an overdue episode begins: the interval is not 0, the counter exceeds it, and the flag is clear (R146). -/
def Drm.episodeBegins (d : Drm) : Bool :=
  d.config.interval != 0 && decide (d.config.interval < d.overdueCount.toNat) && !d.overdueFlag

/-- The episode test: the overdue flag is set and REF_OVERDUE raised where an episode begins (R146). -/
def episodeTest (s : State) : State :=
  if s.drm.episodeBegins then (s.modDrm fun d => { d with overdueFlag := true }).raise .refOverdue else s

/-- The drift monitor after a product load report's count (R146). -/
def Drm.loaded (d : Drm) : Drm := { d with overdueCount := satAdd d.overdueCount 1 }

/-- A product load report: the overdue counter rises, then the episode test is made (R146). -/
def productLoad (s : State) : State := episodeTest (s.modDrm Drm.loaded)

/-! ## Commands -/

/-- SET_DRIFT's owner: all five parameters at once, or BAD_VALUE (R151). -/
def ownSetDrift (p : List Byte) (s : State) : State × Reply :=
  match driftConfigOf p with
  | some c => (s.modDrm fun d => { d with config := c }, bare .ok)
  | none => refuse s .badValue

/-- SET_DRIFT, opcode 0x50 (R151). -/
def execSetDrift (b : Body) (s : State) : Answer := .next (request 0x50 b ownSetDrift s)

/-- READ_DRIFT's owner (R152). -/
def ownReadDrift (_ : List Byte) (s : State) : State × Reply := (s, okWith (driftPayload s.drm))

/-- READ_DRIFT, opcode 0x51 (R152). -/
def execReadDrift (b : Body) (s : State) : Answer := .next (request 0x51 b ownReadDrift s)

/-- CLEAR_DRIFT's response payload (R149). -/
def clearDriftPayload (d : Drm) : List Byte := flagByte d.latch :: sampleBytes d.lastSample

/-- Whether CLEAR_DRIFT is accepted: the last sample is present and within the alarm limit (R149). -/
def Drm.clearable (d : Drm) : Bool :=
  match d.lastSample with
  | none => false
  | some v => decide (v.natAbs ≤ d.config.alarmLimit)

/-- CLEAR_DRIFT's owner (R149). A refusal carries the payload as well (DEDUCED, log entry 12). -/
def ownClearDrift (_ : List Byte) (s : State) : State × Reply :=
  if s.drm.clearable then
    let s1 := s.modDrm fun d => { d with latch := false }
    (s1, okWith (clearDriftPayload s1.drm))
  else (s, ⟨.condition, clearDriftPayload s.drm⟩)

/-- CLEAR_DRIFT, opcode 0x52 (R149). -/
def execClearDrift (b : Body) (s : State) : Answer := .next (request 0x52 b ownClearDrift s)

end Sys2Proof.Machine
end

