-- ==== Sys2Proof/Machine/Gates.lean ====
section
/-! DEFINITION. The Gate Driver (spec/07): pulse ends, fires at the gates, the sweep, and the expiry of a gate pulse. -/

namespace Sys2Proof.Machine

/-- A pulse starts on a line with the width in force (R128, R130). A pulse still running there ends first. -/
def startPulse (s : State) (l : Line) : State :=
  (endPulse s l).setPulse l (some ⟨s.ptk.ring.pulseWidth, 0⟩)

/-- The arrival ends every running pulse before any fire (R134). -/
def endAllPulses (s : State) : State :=
  (List.finRange 16).foldl endPulse s

/-- GATE b fires for the pocket: pulse, fire report, exit report, emptying (R128). -/
def firePocket (s : State) (p : PocketNo) (r : Part) (b : SortBin) : State :=
  emptyPocket (exitReport (fireReport (startPulse s (lineOf b)) b) r (lineOf b)) p

/-- The gate of bin b at an index arrival: it fires for a pocket GRADED with bin b, and for no other (R128, R129). -/
def fireGate (s : State) (b : SortBin) : State :=
  let p := pocketAt s s.ptk.ring.gates[b]
  match s.record p with
  | none => s
  | some r => if r.state = .graded (.bin b) then firePocket s p r b else s

/-- All gates at an index arrival. -/
def fireGates (s : State) : State :=
  (List.finRange 15).foldl fireGate s

/-- GATE0 fires for the pocket: pulse, exit report at bin 0, emptying (R130). -/
def sweepOut (s : State) (p : PocketNo) : State :=
  match s.record p with
  | none => s
  | some r => emptyPocket (exitReport (startPulse s 0) r 0) p

/-- The pocket at W (R130 to R132). -/
def sweepAtW (s : State) : State :=
  let p := pocketAt s s.ptk.ring.sweep
  match s.record p with
  | none => s
  | some r =>
    match r.state with
    | .graded .sweep => sweepOut s p
    | .void => sweepOut s p
    | .held => sweepOut (dropHold s p) p
    | .graded (.bin _) => sweepOut (voidPocket s p) p
    | _ => s

/-- The gate driver's share of an index arrival (R128 to R134). -/
def gateShare (s : State) : State :=
  sweepAtW (fireGates (endAllPulses s))

/-- The expiry of a gate pulse that has reached its width: it ends, and its end is reported. An idle timer, or a pulse that
has not run its width, does nothing (R134, R135). -/
def expirePulse (s : State) (l : Line) : State :=
  match s.pulse l with
  | some p => if p.width ≤ p.elapsed then endPulse s l else s
  | none => s

/-- GATE_PULSE_EXPIRY on a line (R134, R135; log entry 11). -/
def execGatePulseExpiry (l : Line) (s : State) : Answer :=
  .next (whileRunning s fun s => expirePulse s l)

/-- DRAIN_COMPLETE: the drain test of a bin (R119). The events that can complete a drain make it themselves (log entry 7). -/
def execDrainComplete (b : SortBin) (s : State) : Answer :=
  .next (whileRunning s fun s => drainTest s b)

end Sys2Proof.Machine
end

