-- ==== Sys2Proof/Machine/Meter.lean ====
section
/-! DEFINITION. The Meter Link controller (spec/03): triggers, the receiver, matching, timeout, and its requests. -/

namespace Sys2Proof.Machine

/-! ## Triggers -/

/-- The station offset of a port (R40). -/
def stationOffset (s : State) : PortId → Nat
  | .a => s.ptk.ring.measure
  | .b => s.ptk.ring.verify

/-- The bank of a pocket for which a trigger is due on a port, if one is due (R44). A MEASURING record is always tagged
A or B (R65). -/
def triggerDue (s : State) (id : PortId) (p : PocketNo) : Option BankId :=
  match s.record p with
  | none => none
  | some r =>
    match r.tag with
    | none => none
    | some k =>
      if r.state = .measuring ∧ r.contact ≠ some .fail ∧ r.result id = none ∧ (s.port id).naming p = [] ∧
          (s.port id).state ≠ .absent ∧ (id = .b → (s.bank k).lot.verify = true) then
        some k
      else none

/-- A port after a TRIGGER for a pocket is queued with its entry (R45, R47, R57). On an idle transmitter the frame begins at
once, as part of the arrival that queues it, so that a removal of its entry later in the same arrival comes too late to stop
it: R47 gives no moment for the beginning (DESIGN CHOICE, log entry 10). -/
def MeterPort.triggered (m : MeterPort) (p : PocketNo) (exponent : Int) : MeterPort :=
  let f : TriggerFrame := { seq := m.seq, pocket := p, exponent := exponent }
  { m with
    seq := m.seq + 1,
    entries := m.entries ++ [⟨m.seq, p, 0⟩],
    timer := if m.entries = [] then some m.timeoutMs else m.timer,
    txSending := if m.txSending = none then some f else m.txSending,
    txQueue := if m.txSending = none then m.txQueue else m.txQueue ++ [f],
    counts := { m.counts with sent := satAdd m.counts.sent 1 } }

/-- A due trigger with a full list: the station result is SKIPPED (R46). -/
def skipTrigger (s : State) (id : PortId) (p : PocketNo) : State :=
  (s.modMeterCounts id fun n => { n with skipped := satAdd n.skipped 1 }).modPart p fun r => r.setResult id .skipped

/-- A port's share of an index arrival (R44 to R46). -/
def triggerAt (s : State) (id : PortId) : State :=
  let p := pocketAt s (stationOffset s id)
  match triggerDue s id p with
  | none => s
  | some k =>
    if (s.port id).state = .online then
      if (s.port id).entries.length < 4 then
        s.modPort id fun m => m.triggered p (s.bank k).lot.exponent
      else skipTrigger s id p
    else s

/-- TRIGGER_FRAME_SENT: the frame in transmission is done and the next in the queue begins (R47; log entry 10). -/
def MeterPort.frameSent (m : MeterPort) : MeterPort :=
  match m.txSending with
  | none => m
  | some _ => { m with txSending := m.txQueue.head?, txQueue := m.txQueue.tail }

/-- The level of a port's transmit line at a bit time counted from the start of the frame in transmission; the mark level
between frames and on an ABSENT port (R40, R47, R184). -/
def MeterPort.txLevel (m : MeterPort) (i : Nat) : Bool :=
  match m.txSending with
  | none => true
  | some f => (f.levels[i]?).getD true

/-- TRIGGER_FRAME_SENT on a port (R47). -/
def execTriggerFrameSent (id : PortId) (s : State) : Answer :=
  .next (whileRunning s fun s => s.modPort id MeterPort.frameSent)

/-! ## Taking an answer -/

/-- The temperature code with which a meter reports no temperature (R53). -/
def absentTemperature : Int := -32768

/-- A temperature clamped to -4,000 to +15,000 (R53). -/
def clampTemperature (t : Int) : Int :=
  if t < -4000 then -4000 else if 15000 < t then 15000 else t

/-- The reference temperature of the lot of a pocket's bank; for a record without a bank the free value (R53; log entry 15). -/
def trefOf (s : State) (p : PocketNo) : Int :=
  match s.record p with
  | some r =>
    match r.tag with
    | some k => (s.bank k).lot.tref
    | none => Config.untaggedTref
  | none => Config.untaggedTref

/-- The temperature settled for an OK result, and the port's held temperature after it (R53). -/
def settleTemperature (held : Option Int) (tref t : Int) : Int × Option Int :=
  if t = absentTemperature then (held.getD tref, held)
  else (clampTemperature t, some (clampTemperature t))

/-- The stored result of a taken answer and the port's held temperature after it (R52, R53). -/
def storedResult (held : Option Int) (tref : Int) (p : PocketNo) (f : ResultFrame) : StationResult × Option Int :=
  if f.pocket.toNat ≠ p.val then (.invalid, held)
  else if f.status = 1 then (.openCircuit, held)
  else if f.status = 2 then (.short, held)
  else if f.status = 3 then (.overload, held)
  else if f.status ≠ 0 then (.invalid, held)
  else if f.mantissa < 1000000 ∨ 9999999 < f.mantissa ∨ f.exponent < -3 ∨ 6 < f.exponent then (.invalid, held)
  else
    let t := settleTemperature held tref f.temperature
    (.ok f.mantissa f.exponent t.1, t.2)

/-- Writes LOST as the station result of each pocket a list of entries names, oldest first (R50, R58). -/
def writeLost (s : State) (id : PortId) (es : List Outstanding) : State :=
  es.foldl (fun s e => s.modPart e.pocket fun r => r.setResult id .lost) s

/-- A RESULT frame matched on an ONLINE port: the older entries are LOST, the matched one is taken, and an answer that
matches no entry is stray (R50, R51). -/
def matchFrame (s : State) (id : PortId) (f : ResultFrame) : State :=
  let m := s.port id
  let older := m.entries.takeWhile fun e => e.seq != f.seq
  match m.entries.dropWhile fun e => e.seq != f.seq with
  | [] => s.modMeterCounts id fun n => { n with stray := satAdd n.stray 1 }
  | e :: younger =>
    let r := storedResult m.held (trefOf s e.pocket) e.pocket f
    let s1 := writeLost s id older
    (s1.modPort id fun m =>
        { m.setEntries younger with
          held := r.2,
          counts := { m.counts with lost := satAdd m.counts.lost older.length, taken := satAdd m.counts.taken 1 } }).modPart
      e.pocket fun x => x.setResult id r.1

/-! ## Timeout and fault -/

/-- The trip cause of a port's fault (Table 9.3). -/
def faultCause : PortId → Cause
  | .a => .meterA
  | .b => .meterB

/-- A faulted port: its list and its waiting frames gone, lost and timeouts counted (R57, R58, R47). -/
def MeterPort.faulted (m : MeterPort) : MeterPort :=
  { m with
    state := .faulted, entries := [], timer := none, txQueue := [],
    counts :=
      { m.counts with lost := satAdd m.counts.lost m.entries.length, timeouts := satAdd m.counts.timeouts 1 } }

/-- The expiry of a port's timeout timer (R58). -/
def meterFault (s : State) (id : PortId) : State :=
  let s1 := ((writeLost s id (s.port id).entries).modPort id MeterPort.faulted).raise .meterFault
  if s.trc.config.onMeterFault then tripTrigger s1 (faultCause id) else s1

/-- Whether a port's timer has reached its value: the oldest entry's age against the value the timer took (R57). -/
def MeterPort.due (m : MeterPort) : Bool :=
  match m.timer, m.entries with
  | some v, e :: _ => decide (10 * v ≤ e.age)
  | _, _ => false

/-- The expiry of a port's timer, where it has reached its value; elsewhere nothing (R57, R58). -/
def expireDue (s : State) (id : PortId) : State :=
  if (s.port id).due then meterFault s id else s

/-- The expiries of both ports' timers where `test` finds one. Where both are found, which comes first is a free value (log
entry 5); port A is looked at once more after port B, whose fault may move its timer on by a trip action. -/
def expireWhere (test : State → PortId → Bool) (s : State) : State :=
  let one := fun (s : State) (id : PortId) => if test s id then meterFault s id else s
  if (test s .a && test s .b && Config.portBExpiresFirst s.ticks) = true then one (one s .b) .a
  else one (one (one s .a) .b) .a

/-- Whether an event has made another entry of a port's list the oldest (R57). -/
def movedOn (before after : State) (id : PortId) : Bool :=
  (after.port id).entries.head? != (before.port id).entries.head?

/-- What follows an event that takes the part from `before` to `after`: a timer that the event moved on to an entry already
past the timeout expires at once, before any other event (R57). -/
def settleTimers (before after : State) : State :=
  expireWhere (fun s id => (s.port id).due && movedOn before s id) after

/-- METER_TIMEOUT on a port: the expiry of its timeout timer. A timer that does not run or has not reached its value does
nothing (R57, R58; log entry 11). -/
def execMeterTimeout (id : PortId) (s : State) : Answer :=
  .next (whileRunning s fun s => settleTimers s (expireDue s id))

/-! ## The receiver -/

/-- The start byte of a meter frame (Tables 10.5, 10.6). -/
def startByte : Byte := 0xA5

/-- The collected bytes examined again, as though they had just arrived (R49 step 1). -/
def rescan (bs : List Byte) : List Byte := bs.dropWhile fun b => b != startByte

/-- A frame with a good CRC: the kind and the port state are checked, then it is matched (R49 steps 2 and 3). -/
def acceptFrame (s : State) (id : PortId) (f : ResultFrame) : State :=
  if f.kind ≠ 0x52 then s.modMeterCounts id fun n => { n with formatErrors := satAdd n.formatErrors 1 }
  else if (s.port id).state = .online then matchFrame s id f
  else s.modMeterCounts id fun n => { n with stray := satAdd n.stray 1 }

/-- A complete frame of 13 bytes is checked (R49). -/
def frameComplete (s : State) (id : PortId) (bs : List Byte) : State :=
  match crcGood bs, resultFrameOf bs with
  | true, some f => acceptFrame (s.modPort id fun m => { m with rx := [] }) id f
  | _, _ =>
    s.modPort id fun m =>
      { m with rx := rescan bs.tail, counts := { m.counts with crcErrors := satAdd m.counts.crcErrors 1 } }

/-- A byte arrives on a port's receive line: dropped or a start while hunting, collected while collecting; the thirteenth
byte completes the frame (R48). The receiver of an ABSENT port does not run. -/
def receiveByte (s : State) (id : PortId) (b : Byte) : State :=
  let m := s.port id
  if m.state = .absent then s
  else if m.rx = [] ∧ b ≠ startByte then s
  else if (m.rx ++ [b]).length < 13 then s.modPort id fun m => { m with rx := m.rx ++ [b] }
  else frameComplete s id (m.rx ++ [b])

/-- One byte arrival with what follows it at once (R48, R57). -/
def takeByte (id : PortId) (s : State) (b : Byte) : State := settleTimers s (receiveByte s id b)

/-- METER_BYTE_RECEIVED on a port, with the line's levels in the ten bit times of the byte (R48, R49, R184). -/
def execMeterByteReceived (id : PortId) (levels : List Bool) (s : State) : Answer :=
  .next (whileRunning s fun s => takeByte id s (byteOfLevels levels))

/-- FRAME_ARRIVAL on a port: the frame's bytes arrive on its receive line, one after another (R48, R49; log entry 9). -/
def execFrameArrival (id : PortId) (frame : List Byte) (s : State) : Answer :=
  .next (whileRunning s fun s => frame.foldl (takeByte id) s)

/-! ## Requests -/

/-- SET_METER's owner (R60). -/
def ownSetMeter (p : List Byte) (s : State) : State × Reply :=
  match p with
  | [port, ms] =>
    match portOf port with
    | none => refuse s .badValue
    | some id =>
      if ms = 0 then refuse s .badValue
      else if (s.port id).state = .absent then refuse s .wrongState
      else (s.modPort id fun m => { m with timeoutMs := ms.toNat }, bare .ok)
  | _ => refuse s .badLength

/-- SET_METER, opcode 0x20 (R60). -/
def execSetMeter (b : Body) (s : State) : Answer := .next (request 0x20 b ownSetMeter s)

/-- RESTORE_METER's owner (R59). -/
def ownRestoreMeter (p : List Byte) (s : State) : State × Reply :=
  match p with
  | [port] =>
    match portOf port with
    | none => refuse s .badValue
    | some id =>
      if (s.port id).state = .faulted then (s.modPort id fun m => { m with state := .online }, bare .ok)
      else refuse s .wrongState
  | _ => refuse s .badLength

/-- RESTORE_METER, opcode 0x21 (R59). -/
def execRestoreMeter (b : Body) (s : State) : Answer := .next (request 0x21 b ownRestoreMeter s)

/-- READ_METER's owner (R61). -/
def ownReadMeter (p : List Byte) (s : State) : State × Reply :=
  match p with
  | [port] =>
    match portOf port with
    | none => refuse s .badValue
    | some id => (s, okWith (meterPayload s id))
  | _ => refuse s .badLength

/-- READ_METER, opcode 0x22 (R61). -/
def execReadMeter (b : Body) (s : State) : Answer := .next (request 0x22 b ownReadMeter s)

end Sys2Proof.Machine
end

