-- ==== Sys2Proof/Machine/Clock.lean ====
section
/-! DEFINITION. Time: what 0.1 ms does when no command waits (R57, R61, R127, R134; DESIGN CHOICE, log entries 4 and 5). -/

namespace Sys2Proof.Machine

/-- An entry 0.1 ms older, held at 2,550 (R57, R61). -/
def Outstanding.aged (e : Outstanding) : Outstanding := { e with age := min 2550 (e.age + 1) }

/-- A port whose entries are 0.1 ms older. -/
def MeterPort.aged (m : MeterPort) : MeterPort := { m with entries := m.entries.map Outstanding.aged }

/-- A running pulse 0.1 ms on (R127). -/
def Pulse.aged (p : Pulse) : Pulse := { p with elapsed := p.elapsed + 1 }

/-- A gate line's timer 0.1 ms on. -/
def agePulse (s : State) (l : Line) : State := s.setPulse l ((s.pulse l).map Pulse.aged)

/-- 0.1 ms passes: entries and pulses age. -/
def passTime (s : State) : State :=
  let s1 := (List.finRange 16).foldl agePulse ((s.modPort .a MeterPort.aged).modPort .b MeterPort.aged)
  { s1 with ticks := s1.ticks + 1 }

/-- The expiries of the meter timers that have reached their values (R57, R58). -/
def expireMeters (s : State) : State := expireWhere (fun s id => (s.port id).due) s

/-- One tick: the timers that have reached their values expire where no command has ended them before, then 0.1 ms passes.
While reset is held no timer runs. -/
def tick (s : State) : State :=
  whileRunning s fun s => passTime ((List.finRange 16).foldl expirePulse (expireMeters s))

/-- The state with the command that a table word spells at the front of the queue; unchanged where it spells none. -/
def pushCommand (s : State) (c : Option Instr) : State :=
  match c with
  | some i => { s with pending := i :: s.pending }
  | none => s

end Sys2Proof.Machine
end

