-- ==== Sys2Proof/Machine/Banks.lean ====
section
/-! DEFINITION. The grade banks' requests (spec/05, sections 5.2, 5.3 and 5.7). -/

namespace Sys2Proof.Machine

/-- The common checks of a bank write: the code, not TRIPPED, the bank STANDBY, in that order (R85). -/
def writableBank (s : State) (code : Byte) : Except Status BankId :=
  match bankOf code with
  | none => .error .badValue
  | some k =>
    if s.ptk.opState = .tripped then .error .wrongState
    else if (s.bank k).state = .standby then .ok k
    else .error .wrongState

/-- WRITE_LOT's owner (R85, R86). -/
def ownWriteLot (p : List Byte) (s : State) : State × Reply :=
  match p with
  | code :: rest =>
    match writableBank s code with
    | .error st => refuse s st
    | .ok k =>
      match lotOf rest with
      | none => refuse s .badValue
      | some l => (s.modBank k fun b => { b with lot := l }, bare .ok)
  | _ => refuse s .badLength

/-- WRITE_LOT, opcode 0x30 (R86). -/
def execWriteLot (b : Body) (s : State) : Answer := .next (request 0x30 b ownWriteLot s)

/-- WRITE_ENTRY's owner (R85, R87). -/
def ownWriteEntry (p : List Byte) (s : State) : State × Reply :=
  match p with
  | code :: n :: rest =>
    match writableBank s code with
    | .error st => refuse s st
    | .ok k =>
      match entryNoOf n, entryOf rest with
      | some e, some w => (s.modBank k fun b => { b with entries := b.entries.set e w e.isLt }, bare .ok)
      | _, _ => refuse s .badValue
  | _ => refuse s .badLength

/-- WRITE_ENTRY, opcode 0x31 (R87). -/
def execWriteEntry (b : Body) (s : State) : Answer := .next (request 0x31 b ownWriteEntry s)

/-- WRITE_CLASS's owner (R85, R88). -/
def ownWriteClass (p : List Byte) (s : State) : State × Reply :=
  match p with
  | [code, c, kind, bin, ovr, good] =>
    match writableBank s code with
    | .error st => refuse s st
    | .ok k =>
      match classOf c, classActionOf kind bin ovr good with
      | some c, some a => (s.modBank k fun b => { b with actions := b.actions.set c a c.isLt }, bare .ok)
      | _, _ => refuse s .badValue
  | _ => refuse s .badLength

/-- WRITE_CLASS, opcode 0x32 (R88). -/
def execWriteClass (b : Body) (s : State) : Answer := .next (request 0x32 b ownWriteClass s)

/-- COPY_BANK's owner: the other bank, when ACTIVE or DRAINING, is copied (R85, R89). -/
def ownCopyBank (p : List Byte) (s : State) : State × Reply :=
  match p with
  | [code] =>
    match writableBank s code with
    | .error st => refuse s st
    | .ok k =>
      let src := s.bank (otherBank k)
      if src.state = .standby then refuse s .condition
      else (s.modBank k fun b => { b with lot := src.lot, entries := src.entries, actions := src.actions }, bare .ok)
  | _ => refuse s .badLength

/-- COPY_BANK, opcode 0x33 (R89). -/
def execCopyBank (b : Body) (s : State) : Answer := .next (request 0x33 b ownCopyBank s)

/-- The number of the first failing check of ACTIVATE, if one fails (R92, Table 5.5). -/
def failingCheck (s : State) (k : Bank) : Option Nat :=
  if k.entries.toList.any (fun w => w.valid) = false then some 1
  else if k.entries.toList.all
      (fun w => !w.valid || decide (2 * (k.lot.guardBand : Int) ≤ w.upper - w.lower)) = false then some 2
  else if k.lot.verify = true ∧ s.ttp.mportsTwo = false then some 3
  else none

/-- A bank that stops being ACTIVE: DRAINING with parts on the ring, STANDBY without (R93). -/
def Bank.replaced (k : Bank) : Bank :=
  if k.state = .active then { k with state := if k.onRing = 0 then .standby else .draining } else k

/-- Bank X becomes ACTIVE and the former active bank changes state (R93). -/
def switchTo (s : State) (x : BankId) : State :=
  (s.modBank (otherBank x) Bank.replaced).modBank x fun k => { k with state := .active }

/-- ACTIVATE's response payload: both bank states (R91). -/
def activatePayload (s : State) : List Byte := [s.bankA.state.code, s.bankB.state.code]

/-- ACTIVATE's owner (R91). -/
def ownActivate (p : List Byte) (s : State) : State × Reply :=
  match p with
  | [code] =>
    match bankOf code with
    | none => refuse s .badValue
    | some x =>
      if s.ptk.opState = .tripped then refuse s .wrongState
      else
        match (s.bank x).state with
        | .active => (s, okWith (activatePayload s))
        | .draining => let s1 := switchTo s x; (s1, okWith (activatePayload s1))
        | .standby =>
          match failingCheck s (s.bank x) with
          | some n => (s, ⟨.invalidSet, [byte n]⟩)
          | none =>
            let s1 := switchTo (s.modCounts x fun _ => .zero) x
            (s1, okWith (activatePayload s1))
  | _ => refuse s .badLength

/-- ACTIVATE, opcode 0x34 (R91). -/
def execActivate (b : Body) (s : State) : Answer := .next (request 0x34 b ownActivate s)

/-- READ_BANK's owner (R90, R187). -/
def ownReadBank (p : List Byte) (s : State) : State × Reply :=
  match p with
  | [code, part, n] =>
    match bankOf code, bankPartOf part, entryNoOf n with
    | some k, some part, some e => (s, okWith (bankPayload (s.bank k) part e))
    | _, _, _ => refuse s .badValue
  | _ => refuse s .badLength

/-- READ_BANK, opcode 0x35 (R90). -/
def execReadBank (b : Body) (s : State) : Answer := .next (request 0x35 b ownReadBank s)

/-- READ_LOT_COUNTS' owner (R106). -/
def ownReadLotCounts (p : List Byte) (s : State) : State × Reply :=
  match p with
  | [code] =>
    match bankOf code with
    | none => refuse s .badValue
    | some k => (s, okWith (lotCountsPayload (s.bank k)))
  | _ => refuse s .badLength

/-- READ_LOT_COUNTS, opcode 0x36 (R106). -/
def execReadLotCounts (b : Body) (s : State) : Answer := .next (request 0x36 b ownReadLotCounts s)

/-- BANK_RETURNS_TO_STANDBY: a DRAINING bank whose on-ring count is 0 becomes STANDBY and raises BANK_FREE (R94). A
departure report makes this step itself (log entry 7). -/
def bankReturn (s : State) (k : BankId) : State :=
  if (s.bank k).state = .draining ∧ (s.bank k).onRing = 0 then
    (s.modBank k fun b => { b with state := .standby }).raise .bankFree
  else s

/-- BANK_RETURNS_TO_STANDBY for a bank (R94). -/
def execBankReturnsToStandby (k : BankId) (s : State) : Answer :=
  .next (whileRunning s fun s => bankReturn s k)

end Sys2Proof.Machine
end

