-- ==== Sys2Proof/Machine/Bins.lean ====
section
/-! DEFINITION. The Bin Manager's requests (spec/06, sections 6.4 to 6.6). -/

namespace Sys2Proof.Machine

/-- The state SET_BIN without close derives, from the state before and whether filled + reserved is below the new
capacity (Table 6.4). -/
def derivedState (st : BinState) (below : Bool) : BinState :=
  match st with
  | .draining => .draining
  | .exchange => .exchange
  | _ => if below then .opened else .full

/-- SET_BIN without close, after the room law: the values are stored and the state derived; a bin that becomes FULL from
CLOSED or OPEN raises BIN_FULL (R125). -/
def resizeBin (s : State) (b : SortBin) (capacity margin : Nat) : State :=
  let r := s.bin b
  let st := derivedState r.state (decide (r.filled + r.reserved < capacity))
  let s1 := s.setBin b { r with capacity := capacity, margin := margin, state := st }
  if st = .full ∧ r.state ≠ .full then s1.raise .binFull else s1

/-- SET_BIN with close is accepted when nothing is reserved and no pulse runs (R124). -/
def closable (s : State) (b : SortBin) : Bool :=
  (s.bin b).reserved == 0 && !pulseRunning s b

/-- SET_BIN's step 3 (R122, R124, R125). -/
def setBinChecked (s : State) (b : SortBin) (capacity margin : Nat) (close : Bool) : State × Status :=
  if close then
    if closable s b then (s.setBin b { s.bin b with state := .closed }, .ok) else (s, .condition)
  else if capacity + margin < (s.bin b).filled + (s.bin b).reserved then (s, .badValue)
  else (resizeBin s b capacity margin, .ok)

/-- SET_BIN's owner: a refusal at steps 1 or 2 carries bin number 0, every other answer the bin record (R122). -/
def ownSetBin (p : List Byte) (s : State) : State × Reply :=
  match p with
  | [n, c1, c0, m, cl] =>
    match sortBinOf n, flagOf cl with
    | some b, some close =>
      let capacity := natOf [c1, c0]
      if capacity = 0 then (s, ⟨.badValue, [0]⟩)
      else
        let out := setBinChecked s b capacity m.toNat close
        (out.1, ⟨out.2, binPayload out.1 b⟩)
    | _, _ => (s, ⟨.badValue, [0]⟩)
  | _ => refuse s .badLength

/-- SET_BIN, opcode 0x40 (R122). -/
def execSetBin (b : Body) (s : State) : Answer := .next (request 0x40 b ownSetBin s)

/-- READ_BIN's owner (R126). -/
def ownReadBin (p : List Byte) (s : State) : State × Reply :=
  match p with
  | [n] =>
    match sortBinOf n with
    | none => refuse s .badValue
    | some b => (s, okWith (binPayload s b))
  | _ => refuse s .badLength

/-- READ_BIN, opcode 0x41 (R126). -/
def execReadBin (b : Body) (s : State) : Answer := .next (request 0x41 b ownReadBin s)

/-- SWAP_BEGIN's effect: DRAINING, and straight to EXCHANGE when nothing is left to drain (R117, R119). -/
def beginSwap (s : State) (b : SortBin) : State :=
  drainTest (s.setBin b { s.bin b with state := .draining }) b

/-- SWAP_BEGIN's owner (R117). A refusal carries no payload (DEDUCED, log entry 21). -/
def ownSwapBegin (p : List Byte) (s : State) : State × Reply :=
  match p with
  | [n] =>
    match sortBinOf n with
    | none => refuse s .badValue
    | some b =>
      if (s.bin b).state = .opened ∨ (s.bin b).state = .full then
        let s1 := beginSwap s b
        (s1, okWith [(s1.bin b).state.code, byte (s1.bin b).reserved])
      else refuse s .wrongState
  | _ => refuse s .badLength

/-- SWAP_BEGIN, opcode 0x42 (R117). -/
def execSwapBegin (b : Body) (s : State) : Answer := .next (request 0x42 b ownSwapBegin s)

/-- A bin after SWAP_DONE: a fresh box (R120). -/
def BinRec.swapped (r : BinRec) : BinRec :=
  { r with state := .opened, filled := 0, boxSeq := r.boxSeq + 1 }

/-- SWAP_DONE's owner (R120). -/
def ownSwapDone (p : List Byte) (s : State) : State × Reply :=
  match p with
  | [n] =>
    match sortBinOf n with
    | none => refuse s .badValue
    | some b =>
      let r := s.bin b
      if r.state = .exchange then
        (s.setBin b r.swapped, okWith (bytesOf 3 r.filled ++ bytesOf 2 r.swapped.boxSeq.toNat))
      else refuse s .wrongState
  | _ => refuse s .badLength

/-- SWAP_DONE, opcode 0x43 (R120). -/
def execSwapDone (b : Body) (s : State) : Answer := .next (request 0x43 b ownSwapDone s)

end Sys2Proof.Machine
end

