-- ==== Sys2Proof/Machine/Resets.lean ====
section
/-! DEFINITION. Resets, the release of reset, and the GPOL pin (spec/02, section 2.5; spec/09, R169). -/

namespace Sys2Proof.Machine

/-- Every block at its reset values, with reset held. The trip record and count are the arguments; the latched straps, the
restart cause, the pin levels and the port states stay until the release takes them anew (R37 to R40, R169; log entry 14). -/
def resetBlocks (por : Bool) (record : TripRecord) (count : Count16) (s : State) : State :=
  { s with
    ptk := .reset,
    ttp := { s.ttp with aux := Ttp.resetAux, held := true, porSince := por || s.ttp.porSince },
    portA := .reset s.portA.state,
    portB := .reset s.portB.state,
    bankA := .reset,
    bankB := .reset,
    bins := Vector.replicate 15 .reset,
    gates := Vector.replicate 16 none,
    drm := .reset,
    trc := .reset record count,
    svl := .reset }

/-- POWER_ON_RESET: the trip record and count go too (R37, R169). -/
def execPowerOnReset (s : State) : Answer := .next (resetBlocks true .empty 0 s)

/-- NRESET: as POR, but the trip record and count are kept (R169). -/
def execNreset (s : State) : Answer := .next (resetBlocks false s.trc.record s.trc.count s)

/-- The Turret Port at the release of reset (R27, R37 to R39). -/
def Ttp.released (t : Ttp) (pins : ReleasePins) : Ttp :=
  { mportsTwo := pins.mports, gpolHigh := pins.gpol, restartCause := if t.porSince then .powerOn else .resetLine,
    aux := Ttp.resetAux, safeActive := pins.safe, indexLevel := pins.index, loadLevel := pins.load,
    gpolPin := pins.gpol, held := false, porSince := false }

/-- The release of reset before its SAFE exception: straps, restart cause, starting levels, port states (R37 to R40, R170). -/
def releaseReset (pins : ReleasePins) (s : State) : State :=
  { s with
    ttp := s.ttp.released pins,
    portA := { s.portA with state := .online },
    portB := { s.portB with state := if pins.mports then .online else .absent },
    svl := { s.svl with ignoring := pins.nscs } }

/-- RESET_RELEASE: where a reset is held it ends, and an active SAFE is a trip trigger (R37). With no reset held there is
no release (log entry 13). -/
def execResetRelease (pins : ReleasePins) (s : State) : Answer :=
  .next
    (if s.ttp.held then
      if pins.safe then tripTrigger (releaseReset pins s) .safe else releaseReset pins s
    else s)

/-- GPOL_PIN_CHANGE: the pin's level; only while reset is held do the gate lines follow it (R37, R38, `gateLine`). -/
def execGpolPinChange (high : Bool) (s : State) : Answer :=
  .next { s with ttp := { s.ttp with gpolPin := high } }

end Sys2Proof.Machine
end

