-- ==== Sys2Proof/Machine/Track.lean ====
section
/-! DEFINITION. The Pocket Track's requests (spec/01, sections 1.5 and 1.6). -/

namespace Sys2Proof.Machine

/-- START's owner (R19). -/
def ownStart (_ : List Byte) (s : State) : State × Reply :=
  match s.ptk.opState with
  | .tripped => refuse s .wrongState
  | .run => (s, bare .ok)
  | .idle => if (activeBank s).isSome then (s.setOpState .run, bare .ok) else refuse s .condition

/-- START, opcode 0x11 (R19). -/
def execStart (b : Body) (s : State) : Answer := .next (request 0x11 b ownStart s)

/-- STOP's owner (R20). -/
def ownStop (_ : List Byte) (s : State) : State × Reply :=
  match s.ptk.opState with
  | .tripped => refuse s .wrongState
  | .run => (s.setOpState .idle, bare .ok)
  | .idle => (s, bare .ok)

/-- STOP, opcode 0x12 (R20). -/
def execStop (b : Body) (s : State) : Answer := .next (request 0x12 b ownStop s)

/-- The configuration replaced; a load pointer that no longer fits becomes 0 (R23). -/
def setRing (s : State) (r : Ring) : State :=
  { s with
    ptk :=
      { s.ptk with
        ring := r
        loadPointer := if s.ptk.loadPointer < r.pockets then s.ptk.loadPointer else 0 } }

/-- Whether every pocket 0 to P-1 is EMPTY (R22 check 2). -/
def ringEmpty (s : State) : Bool :=
  (ringPockets s).all fun p => (s.record p).isNone

/-- SET_RING's owner: state, empty ring, values, in that order (R22, R23). -/
def ownSetRing (p : List Byte) (s : State) : State × Reply :=
  if s.ptk.opState ≠ .idle then refuse s .wrongState
  else if ringEmpty s = false then refuse s .condition
  else if (ringOf p).valid = false then refuse s .badValue
  else (setRing s (ringOf p), bare .ok)

/-- SET_RING, opcode 0x10 (R22). -/
def execSetRing (b : Body) (s : State) : Answer := .next (request 0x10 b ownSetRing s)

/-- A cleared count raised for a record's bank (R24 step 1). -/
def clearedReport (s : State) (tag : Option BankId) : State :=
  match tag with
  | none => s
  | some k => s.modCounts k fun n => { n with cleared := n.cleared + 1 }

/-- CLEAR_TRACK's handling of one pocket: cleared report, release, emptying (R24). -/
def clearPocket (s : State) (p : PocketNo) : State :=
  match s.record p with
  | none => s
  | some r =>
    let s1 := clearedReport s r.tag
    let s2 :=
      match r.state with
      | .graded (.bin b) => release s1 b
      | _ => s1
    emptyPocket s2 p

/-- A port's list emptied by CLEAR_TRACK: the timer stops and the waiting frames go (R54, R47). -/
def MeterPort.dropAll (m : MeterPort) : MeterPort :=
  { m with entries := [], timer := none, txQueue := [] }

/-- CLEAR_TRACK's effect (R24, R54). -/
def clearTrack (s : State) : State :=
  let s1 := (ringPockets s).foldl clearPocket s
  ((s1.modPort .a MeterPort.dropAll).modPort .b MeterPort.dropAll).setHold []

/-- The number of occupied pockets 0 to P-1. -/
def ringOccupied (s : State) : Nat :=
  ((ringPockets s).filter fun p => (s.record p).isSome).length

/-- CLEAR_TRACK's owner (R24). -/
def ownClearTrack (_ : List Byte) (s : State) : State × Reply :=
  if s.ptk.opState = .run then refuse s .wrongState
  else (clearTrack s, okWith [byte (ringOccupied s)])

/-- CLEAR_TRACK, opcode 0x13 (R24). -/
def execClearTrack (b : Body) (s : State) : Answer := .next (request 0x13 b ownClearTrack s)

/-- READ_POCKET's owner (R25). -/
def ownReadPocket (p : List Byte) (s : State) : State × Reply :=
  match p with
  | [n] =>
    match pocketOf s n with
    | none => refuse s .badValue
    | some q => (s, okWith (pocketPayload s q))
  | _ => refuse s .badLength

/-- READ_POCKET, opcode 0x14 (R25). -/
def execReadPocket (b : Body) (s : State) : Answer := .next (request 0x14 b ownReadPocket s)

/-- READ_DEVICE_COUNTS' owner (R26). -/
def ownReadDeviceCounts (_ : List Byte) (s : State) : State × Reply := (s, okWith (deviceCountsPayload s))

/-- READ_DEVICE_COUNTS, opcode 0x15 (R26). -/
def execReadDeviceCounts (b : Body) (s : State) : Answer := .next (request 0x15 b ownReadDeviceCounts s)

end Sys2Proof.Machine
end

