-- ==== Sys2Proof/Machine/Trip.lean ====
section
/-! DEFINITION. The Trip Controller's requests and its completion step (spec/09). -/

namespace Sys2Proof.Machine

/-- ACTION_COMPLETE: while TRIPPED with the flag clear, an empty ring sets the action complete flag (R162). The emptying of
a record makes this step itself (log entry 7). -/
def execActionComplete (s : State) : Answer := .next (whileRunning s completionTest)

/-- TRIP's owner (R164). -/
def ownTrip (_ : List Byte) (s : State) : State × Reply :=
  let s1 := tripTrigger s .command
  (s1, okWith [s1.trc.causes.byte, flagByte s1.trc.complete])

/-- TRIP, opcode 0x61, with what follows its trip action at once (R57, R164). -/
def execTrip (b : Body) (s : State) : Answer := .next (settleTimers s (request 0x61 b ownTrip s))

/-- A trip record after a read: CAPTURED becomes READ (R167). -/
def TripRecord.marked : TripRecord → TripRecord
  | .captured n => .read n
  | r => r

/-- READ_TRIP's owner (R167). -/
def ownReadTrip (_ : List Byte) (s : State) : State × Reply :=
  (s.modTrc fun t => { t with record := t.record.marked }, okWith (tripPayload s))

/-- READ_TRIP, opcode 0x62 (R167). -/
def execReadTrip (b : Body) (s : State) : Answer := .next (request 0x62 b ownReadTrip s)

/-- The CLEAR_TRIP conditions not met: action, safe line, drift, meters (Table 9.6). -/
def conditionsUnmet (s : State) : List Bool :=
  [!s.trc.complete, s.ttp.safeActive, s.drm.latch,
   (s.trc.causes.meterA && s.portA.state != .online) || (s.trc.causes.meterB && s.portB.state != .online)]

/-- A trip cleared: no cause, the flag clear, IDLE (R165). -/
def clearTrip (s : State) : State :=
  (s.setOpState .idle).modTrc fun t => { t with causes := .none, complete := false }

/-- CLEAR_TRIP's owner (R165). -/
def ownClearTrip (_ : List Byte) (s : State) : State × Reply :=
  if s.ptk.opState ≠ .tripped then refuse s .wrongState
  else if (conditionsUnmet s).any id then (s, ⟨.condition, [bitsByte (conditionsUnmet s)]⟩)
  else (clearTrip s, bare .ok)

/-- CLEAR_TRIP, opcode 0x63 (R165). -/
def execClearTrip (b : Body) (s : State) : Answer := .next (request 0x63 b ownClearTrip s)

/-- SET_TRIP's owner; every answer carries the configuration in force (R168). -/
def ownSetTrip (p : List Byte) (s : State) : State × Reply :=
  match p with
  | [a, h, m] =>
    if s.ptk.opState = .tripped then (s, ⟨.wrongState, tripConfigBytes s.trc.config⟩)
    else
      match tripConfigOf a h m with
      | none => (s, ⟨.badValue, tripConfigBytes s.trc.config⟩)
      | some c => (s.modTrc fun t => { t with config := c }, okWith (tripConfigBytes c))
  | _ => refuse s .badLength

/-- SET_TRIP, opcode 0x60 (R168). -/
def execSetTrip (b : Body) (s : State) : Answer := .next (request 0x60 b ownSetTrip s)

end Sys2Proof.Machine
end

