-- ==== Sys2Proof/Machine/Deviation.lean ====
section
/-! DEFINITION. The Deviation Unit (spec/04): pure arithmetic from station results, lot parameters and drift offsets. -/

namespace Sys2Proof.Machine

/-- Exact division by a positive integer, rounded to the nearest integer with halves away from zero (R66). -/
def roundDiv (n : Int) (d : Nat) : Int :=
  n.sign * (((2 * n.natAbs + d) / (2 * d) : Nat) : Int)

/-- The outcome of stage 1 (R67, R68). -/
inductive RawOutcome where
  | over
  | under
  | value (raw : Int)
  deriving DecidableEq, Repr

/-- Stage 1's numerator and denominator at exponent difference d (Table 4.3). -/
def rawFraction (m n : Nat) (d : Int) : Int × Nat :=
  if d = 1 then ((m : Int) * 10 - n, n)
  else if d = 0 then ((m : Int) - n, n)
  else ((m : Int) - 10 * n, 10 * n)

/-- Stage 1: exponent alignment and raw deviation (R67, R68). -/
def stage1 (m : Nat) (e : Int) (lot : Lot) : RawOutcome :=
  let d := e - lot.exponent
  if 2 ≤ d then .over
  else if d ≤ -2 then .under
  else
    let f := rawFraction m lot.nominal d
    let raw := roundDiv (f.1 * 1000000) f.2
    if 999999 < raw then .over else .value raw

/-- Stage 2: the deviation at the lot's reference temperature, under a temperature coefficient (R69). -/
def stage2 (raw t tref tcr : Int) : Int :=
  raw - roundDiv (tcr * (t - tref)) 100

/-- Stage 4: the clamp to what a record can hold, with the saturated flag (R71). -/
def clampDev (v : Int) : Deviation :=
  if 999999 < v then ⟨999999, true⟩
  else if v < -999999 then ⟨-999999, true⟩
  else ⟨v, false⟩

/-- The pair of drift offsets a grading reads (R70). -/
structure OffsetPair where
  applied : Int
  target : Int
  deriving DecidableEq, Repr

/-- Stages 1 to 4 for one station's OK result: a range verdict, or the station deviation (R67 to R71). -/
def stationDeviation (m : Nat) (e t : Int) (lot : Lot) (o : OffsetPair) : RawOutcome ⊕ Deviation :=
  match stage1 m e lot with
  | .value raw => .inr (clampDev (stage2 raw t lot.tref lot.tcr - o.applied))
  | v => .inl v

/-- The outcome of the product arithmetic (Table 4.5). -/
inductive DvuOutcome where
  /-- The range verdict OVERRANGE, with D2 when it came from the VERIFY result. -/
  | overrange (d2 : Option Deviation)
  /-- The range verdict UNDERRANGE, with D2 when it came from the VERIFY result. -/
  | underrange (d2 : Option Deviation)
  /-- UNSTABLE, with D2 and the combined flag. -/
  | unstable (d2 : Deviation)
  /-- A deviation. -/
  | value (d : Deviation)
  deriving DecidableEq, Repr

/-- Stage 5: agreement and mean of two station deviations (R72, R73). -/
def stage5 (d2 d3 : Deviation) (limit : Nat) : DvuOutcome :=
  let flag := d2.saturated || d3.saturated
  if limit < (d2.ppm - d3.ppm).natAbs then .unstable ⟨d2.ppm, flag⟩
  else .value ⟨roundDiv (d2.ppm + d3.ppm) 2, flag⟩

/-- A range verdict as the outcome handed to GRC, with the deviation computed before it (R74). -/
def rangeVerdict (v : RawOutcome) (d2 : Option Deviation) : DvuOutcome :=
  match v with
  | .under => .underrange d2
  | _ => .overrange d2

/-- An OK result's reading: mantissa, exponent, temperature. -/
structure Reading where
  mantissa : Nat
  exponent : Int
  temperature : Int
  deriving DecidableEq, Repr

/-- The product arithmetic on the MEASURE reading, and on the VERIFY reading when verify is on (R74). -/
def productOutcome (lot : Lot) (o : OffsetPair) (m : Reading) (v : Option Reading) : DvuOutcome :=
  match stationDeviation m.mantissa m.exponent m.temperature lot o with
  | .inl r => rangeVerdict r none
  | .inr d2 =>
    match v with
    | none => .value d2
    | some v =>
      match stationDeviation v.mantissa v.exponent v.temperature lot o with
      | .inl r => rangeVerdict r (some d2)
      | .inr d3 => stage5 d2 d3 lot.agreement

/-- The reference path: the reference deviation and the drift sample, or `none` on a range verdict (R75, R76). -/
def referenceOutcome (lot : Lot) (m : Reading) : Option (Deviation × Int) :=
  match stage1 m.mantissa m.exponent lot with
  | .value raw =>
    let corrected := stage2 raw m.temperature lot.tref lot.refTcr
    some (clampDev corrected, corrected - lot.refCertified)
  | _ => none

/-- The effective guard of a grading (R77). -/
def effectiveGuard (lot : Lot) (o : OffsetPair) : Nat :=
  min 10000 (lot.guardBand + (o.target - o.applied).natAbs)

/-- Stage 6: a deviation against one window entry under a guard (R78). -/
def WindowEntry.hits (w : WindowEntry) (guard : Nat) (d : Int) : Bool :=
  w.valid && decide (w.lower + guard ≤ d) && decide (d ≤ w.upper - guard)

end Sys2Proof.Machine
end

