-- ==== Sys2Proof/Machine/Grading.lean ====
section
/-! DEFINITION. Grading at the decision point (spec/05, sections 5.4 to 5.6). -/

namespace Sys2Proof.Machine

/-- A station result as grading sees it: a reading, or the class it raises (R96). -/
def resultClass : Option StationResult → PartClass ⊕ Reading
  | some (.ok m e t) => .inr ⟨m, e, t⟩
  | some .openCircuit => .inl .openPart
  | some .short => .inl .shortPart
  | some .overload => .inl .overrange
  | _ => .inl .missing

/-- The first bin of a list, in order, that grants a reservation without override (R98, R111). -/
def reserveFirst (s : State) : List SortBin → Option (SortBin × State)
  | [] => none
  | b :: bs =>
    match reserve s b false with
    | some t => some (b, t)
    | none => reserveFirst s bs

/-- A part GRADED with a bin: the reservation is asked for, and a refusal sends the part to bin 0 (R100, R103). -/
def gradeInto (s : State) (p : PocketNo) (dest : Dest) (override : Bool) : State :=
  match dest with
  | .sweep => s.modPart p fun r => { r with state := .graded .sweep }
  | .bin b =>
    match reserve s b override with
    | some t => t.modPart p fun r => { r with state := .graded (.bin b) }
    | none => s.modPart p fun r => { r with state := .graded .sweep }

/-- A HOLD action with room: the record is HELD, joins the hold list, and HOLD_WAITING is raised (R102). -/
def holdPart (s : State) (p : PocketNo) (serial : Count32) (c : PartClass) : State :=
  ((s.modPart p fun r => { r with state := .held }).setHold (s.svl.hold ++ [⟨p, serial, c⟩])).raise .holdWaiting

/-- The class action for a class (R100 to R102). -/
def classAction (s : State) (p : PocketNo) (id : BankId) (r : Part) (c : PartClass) : State :=
  let a := (s.bank id).action c
  match a.kind with
  | .bin => gradeInto s p a.dest a.override
  | .retest =>
    if r.retests < (s.bank id).lot.retestLimit then
      s.modPart p fun r => { r with retests := r.retests + 1, state := .retest }
    else gradeInto s p a.dest a.override
  | .hold =>
    if s.svl.hold.length < 4 then holdPart s p r.serial c else gradeInto s p a.dest a.override

/-- A class count raised (R99, R104). -/
def LotCounts.classed (n : LotCounts) (c : PartClass) : LotCounts :=
  { n with classes := n.classes.set c.code (n.classes[c.code] + 1) c.code.isLt }

/-- A class is raised: it is counted and written with the deviation, if one was computed, and its action runs (R99). -/
def raiseClass (s : State) (p : PocketNo) (id : BankId) (r : Part) (c : PartClass) (d : Option Deviation) : State :=
  classAction ((s.modCounts id fun n => n.classed c).modPart p fun r => { r with deviation := d, grade := .byClass c })
    p id r c

/-- The first valid entry a deviation matches under a guard (R98). -/
def firstMatch (k : Bank) (guard : Nat) (d : Int) : Option (Fin 16) :=
  (List.finRange 16).find? fun e => k.entries[e].hits guard d

/-- The pair of drift offsets a grading reads (R70). -/
def offsetPair (s : State) : OffsetPair := ⟨s.drm.applied, s.drm.target⟩

/-- The window test of a deviation (R98). -/
def windowTest (s : State) (p : PocketNo) (id : BankId) (r : Part) (d : Deviation) : State :=
  let k := s.bank id
  match firstMatch k (effectiveGuard k.lot (offsetPair s)) d.ppm with
  | none => raiseClass s p id r .noMatch (some d)
  | some e =>
    match reserveFirst s (k.entries[e].primary :: k.entries[e].spill) with
    | some (b, t) =>
      t.modPart p fun r => { r with state := .graded (.bin b), deviation := some d, grade := .byEntry e }
    | none => raiseClass s p id r .exhausted (some d)

/-- The arithmetic's outcome turned into a class or the window test (R97). -/
def gradeOutcome (s : State) (p : PocketNo) (id : BankId) (r : Part) (o : DvuOutcome) : State :=
  match o with
  | .overrange d => raiseClass s p id r .overrange d
  | .underrange d => raiseClass s p id r .underrange d
  | .unstable d => raiseClass s p id r .unstable (some d)
  | .value d => windowTest s p id r d

/-- The grading of a MEASURING product record: contact, MEASURE, VERIFY, then the arithmetic (R96, R97). -/
def gradeProduct (s : State) (p : PocketNo) (id : BankId) (r : Part) : State :=
  let lot := (s.bank id).lot
  if r.contact = some .fail then raiseClass s p id r .contactFail none
  else
    match resultClass r.measure with
    | .inl c => raiseClass s p id r c none
    | .inr m =>
      if lot.verify then
        match resultClass r.verify with
        | .inl c => raiseClass s p id r c none
        | .inr v => gradeOutcome s p id r (productOutcome lot (offsetPair s) m (some v))
      else gradeOutcome s p id r (productOutcome lot (offsetPair s) m none)

/-- What the reference path computes from a record's MEASURE result (R75, R103 step 1). -/
def referenceSample (lot : Lot) (r : Part) : Option (Deviation × Int) :=
  match resultClass r.measure with
  | .inr m => referenceOutcome lot m
  | .inl _ => none

/-- The grading of a MEASURING reference record: the reference bin with override, then the hand-off to DRM (R103). -/
def gradeReference (s : State) (p : PocketNo) (id : BankId) (r : Part) : State :=
  let lot := (s.bank id).lot
  let o := referenceSample lot r
  let s1 := (gradeInto s p (.bin lot.refBin) true).modPart p fun r => { r with deviation := o.map Prod.fst }
  match o with
  | some (_, v) => sampleArrival s1 v
  | none => badReference s1

/-- Grading of a MEASURING record (Table 5.6, steps 3 and a to h). A record tagged NONE is never measured (R65); it is
left as it is (log entry 15). -/
def gradeRecord (s : State) (p : PocketNo) (r : Part) : State :=
  match r.kind, r.tag with
  | .product, some id => if recirculating s then recircPocket s p else gradeProduct s p id r
  | .reference, some id => gradeReference s p id r
  | _, none => s

/-- The grading at the decision point: the pocket's outstanding entries expire, and a MEASURING record is graded (R55,
R95). -/
def gradeAtDecision (s : State) : State :=
  let p := pocketAt s s.ptk.ring.decision
  let s1 := expireEntry (expireEntry s .a p) .b p
  match s1.record p with
  | none => s1
  | some r => if r.state = .measuring then gradeRecord s1 p r else s1

end Sys2Proof.Machine
end

