-- ==== Sys2Proof/Machine/Turret.lean ====
section
/-! DEFINITION. The turret's events (spec/01, sections 1.3 and 1.4; spec/02): index arrivals, load arrivals, SAFE and SET_AUX.
Each event is followed at once by the expiry of a timer that it moved on to an entry already past its timeout (R57). -/

namespace Sys2Proof.Machine

/-! ## Index arrival -/

/-- The advance of the ring (R9). -/
def advanceRing (s : State) : State :=
  { s with
    ptk :=
      { s.ptk with
        loadPointer := (s.ptk.loadPointer + 1) % s.ptk.ring.pockets
        indexCount := s.ptk.indexCount + 1 } }

/-- The contact verdict the arrival carries, written into the pocket that stood at the contact station before the advance,
when it is MEASURING (R10). -/
def contactVerdict (contact convalid : Bool) (s : State) : State :=
  if s.ptk.ring.contact ≠ 0 ∧ convalid = true then
    s.modPart (pocketAt s s.ptk.ring.contact) fun r =>
      if r.state = .measuring then { r with contact := some (if contact then .pass else .fail) } else r
  else s

/-- Whether HOME finds the load pointer away from 0 (R11). -/
def slipFound (home : Bool) (s : State) : Bool := home && s.ptk.loadPointer != 0

/-- The HOME correction of the load pointer (R11). -/
def homeCorrect (home : Bool) (s : State) : State :=
  if home then { s with ptk := { s.ptk with loadPointer := 0 } } else s

/-- A record whose results are cleared for a new measurement (R12, R13). -/
def Part.cleared (r : Part) : Part :=
  { r with
    state := .measuring, contact := none, measure := none, verify := none, deviation := none, grade := .ungraded }

/-- The pass of a RETEST or RECIRC record at offset 0; a RETEST pass raises its bank's retest revolutions (R12, R13). -/
def passShare (s : State) : State :=
  let p := pocketAt s 0
  match s.record p with
  | none => s
  | some r =>
    match r.state with
    | .recirc => s.setRecord p (some r.cleared)
    | .retest =>
      match r.tag with
      | none => s.setRecord p (some r.cleared)
      | some k => (s.setRecord p (some r.cleared)).modCounts k fun n => { n with retestRevs := n.retestRevs + 1 }
    | _ => s

/-- One share of an index arrival; `slipped` says whether HOME found a slip. -/
def takeShare (slipped : Bool) (s : State) : Share → State
  | .slip => if slipped then tripTrigger s .slip else s
  | .passes => passShare s
  | .triggers => triggerAt (triggerAt s .a) .b
  | .grading => gradeAtDecision s
  | .gates => gateShare s
  | .drift => s.modDrm Drm.counted

/-- The order of shares where the command names none. -/
def defaultOrder : List Share := [.slip, .passes, .triggers, .grading, .gates, .drift]

/-- The first place of each share in a list. -/
def firstPlaces (seen : List Share) : List Share → List Share
  | [] => []
  | x :: xs => if seen.contains x then firstPlaces seen xs else x :: firstPlaces (x :: seen) xs

/-- Every share exactly once: the shares the command names, in its order, then the others (log entry 6). -/
def fullOrder (order : List Share) : List Share := firstPlaces [] (order ++ defaultOrder)

/-- The Pocket Track's first part of an index arrival: the contact verdict (of the pocket found before the advance), the
advance, and the HOME correction (R9 to R11). -/
def arrive (home contact convalid : Bool) (s : State) : State :=
  let s1 := advanceRing (contactVerdict contact convalid s)
  homeCorrect home { s1 with ttp := { s1.ttp with indexLevel := true } }

/-- An index arrival, whole (R9 to R13, R28, and the shares of the other blocks). -/
def indexArrival (home contact convalid : Bool) (order : List Share) (s : State) : State :=
  (fullOrder order).foldl (takeShare (slipFound home (advanceRing s))) (arrive home contact convalid s)

/-- The index arrival with what follows it at once (R57). -/
def indexEvent (home contact convalid : Bool) (order : List Share) (s : State) : State :=
  settleTimers s (indexArrival home contact convalid order s)

/-- INDEX_ARRIVAL: a qualified rising edge of INDEX with HOME, CONTACT and CONVALID as sampled (R9, R28). -/
def execIndexArrival (home contact convalid : Bool) (order : List Share) (s : State) : Answer :=
  .next (whileRunning s (indexEvent home contact convalid order))

/-- PERIOD_WRAP: an index arrival at which the period counter reaches k; R143: "the arrival is a period wrap". The row has no
operands, so the arrival is one with HOME, CONTACT and CONVALID inactive and the shares in their default order; where an
arrival would not wrap there is no such event, and nothing happens (DESIGN CHOICE, log entry 7). -/
def execPeriodWrap (s : State) : Answer :=
  .next (whileRunning s fun s => if s.drm.wraps then indexEvent false false false [] s else s)

/-! ## Load arrival -/

/-- A new record with the next serial (R5, R15, R16). -/
def newPart (s : State) (st : PartState) (tag : Option BankId) (refsel : Bool) : Part :=
  { state := st, serial := s.ptk.serial, tag := tag, kind := if refsel then .reference else .product, retests := 0,
    contact := none, measure := none, verify := none, deviation := none, grade := .ungraded }

/-- A load creates a record: the serial counter rises and the load is reported to the tagged bank (R5, R15, R16). -/
def createRecord (s : State) (p : PocketNo) (st : PartState) (tag : Option BankId) (refsel : Bool) : State :=
  let s1 := s.setRecord p (some (newPart s st tag refsel))
  loadReport { s1 with ptk := { s1.ptk with serial := s1.ptk.serial + 1 } } tag

/-- Whether a load on an EMPTY pocket is measured: in RUN, or a reference load with a bank ACTIVE (R15). -/
def loadAdmitted (s : State) (refsel : Bool) : Bool :=
  s.ptk.opState == .run || (refsel && (activeBank s).isSome)

/-- A load conflict: the record is voided and the conflict counter rises (R17). -/
def loadConflict (s : State) (p : PocketNo) : State :=
  let s1 := voidPocket s p
  { s1 with ptk := { s1.ptk with conflicts := satAdd s1.ptk.conflicts 1 } }

/-- A load arrival (R14, Table 1.5). -/
def loadArrival (refsel : Bool) (s : State) : State :=
  let p := pocketAt s 0
  match s.record p with
  | some _ => loadConflict s p
  | none =>
    if loadAdmitted s refsel then
      let s1 := createRecord s p .measuring (activeBank s) refsel
      if refsel then s1 else productLoad s1
    else createRecord s p .void (activeBank s) refsel

/-- The load arrival with the level it leaves and with what follows it at once (R29, R57). -/
def loadEvent (refsel : Bool) (s : State) : State :=
  settleTimers s (loadArrival refsel { s with ttp := { s.ttp with loadLevel := true } })

/-- LOAD_ARRIVAL: a qualified rising edge of LOAD with REFSEL as sampled (R14, R29). -/
def execLoadArrival (refsel : Bool) (s : State) : Answer :=
  .next (whileRunning s (loadEvent refsel))

/-- Whether a product load now would begin an overdue episode: it creates a MEASURING record, and its report finds the
raised counter above the interval with the flag clear (R15, R146). -/
def loadBeginsEpisode (s : State) : Bool :=
  (s.record (pocketAt s 0)).isNone && loadAdmitted s false && s.drm.loaded.episodeBegins

/-- OVERDUE_EPISODE_START: the product load whose report begins an overdue episode (R146). Where a product load would begin
none there is no such event, and nothing happens (DESIGN CHOICE, log entry 7). -/
def execOverdueEpisodeStart (s : State) : Answer :=
  .next (whileRunning s fun s => if loadBeginsEpisode s then loadEvent false s else s)

/-! ## SAFE -/

/-- SAFE becomes active: a trip trigger with cause SAFE. A SAFE already active has not changed (R30; log entry 16). -/
def safeOn (s : State) : State :=
  if s.ttp.safeActive then s else tripTrigger { s with ttp := { s.ttp with safeActive := true } } .safe

/-- SAFE_ACTIVE (R30). -/
def execSafeActive (s : State) : Answer := .next (whileRunning s fun s => settleTimers s (safeOn s))

/-- SAFE_INACTIVE: only the level changes (R30). -/
def execSafeInactive (s : State) : Answer :=
  .next (whileRunning s fun s => { s with ttp := { s.ttp with safeActive := false } })

/-! ## Auxiliary lines -/

/-- Whether a function code other than OFF appears twice (R36). -/
def auxRepeats (fs : List AuxFn) : Bool :=
  !decide (fs.filter fun f => f != .off).Nodup

/-- SET_AUX's owner; every answer carries the four codes in force (R36). -/
def ownSetAux (p : List Byte) (s : State) : State × Reply :=
  match p with
  | [a, b, c, d] =>
    if s.ptk.opState = .run then (s, ⟨.wrongState, auxPayload s⟩)
    else
      match auxFnOf a, auxFnOf b, auxFnOf c, auxFnOf d with
      | some a, some b, some c, some d =>
        if auxRepeats [a, b, c, d] then (s, ⟨.badValue, auxPayload s⟩)
        else
          let s1 := { s with ttp := { s.ttp with aux := #v[a, b, c, d] } }
          (s1, okWith (auxPayload s1))
      | _, _, _, _ => (s, ⟨.badValue, auxPayload s⟩)
  | _ => refuse s .badLength

/-- SET_AUX, opcode 0x18 (R36). -/
def execSetAux (b : Body) (s : State) : Answer := .next (request 0x18 b ownSetAux s)

end Sys2Proof.Machine
end

