-- ==== Sys2Proof/Machine/Supervisor.lean ====
section
/-! DEFINITION. The Supervisor Link's own commands (spec/10): transactions, NOP, unknown opcodes, IDENTIFY, READ_ATTENTION,
READ_HOLD and VERDICT; and which block a transaction's opcode byte hands its request to. -/

namespace Sys2Proof.Machine

/-- TRANSACTION_START: nSCS falls (R172). -/
def execTransactionStart (s : State) : Answer := .next (transactionStart s)

/-- UNKNOWN_OPCODE: a request with an opcode not in Table 10.9 is answered UNKNOWN, whatever its length (R171 case 2, R187). -/
def execUnknownOpcode (op : Byte) (_ : Body) (s : State) : Answer :=
  .next (if takesRequest s then s.answer op (bare .unknown) else s)

/-- NOP: no request is made, whatever bytes follow (R171, R175). -/
def execNop (_ : List Byte) (s : State) : Answer := .next (nopRequest s)

/-- IDENTIFY's owner (R175). -/
def ownIdentify (_ : List Byte) (s : State) : State × Reply := (s, okWith (identifyPayload s))

/-- IDENTIFY, opcode 0x01 (R175). -/
def execIdentify (b : Body) (s : State) : Answer := .next (request 0x01 b ownIdentify s)

/-- READ_ATTENTION's owner: the set flags are returned and cleared (R177). -/
def ownReadAttention (_ : List Byte) (s : State) : State × Reply :=
  ({ s with svl := { s.svl with attention := .none } }, okWith [s.svl.attention.byte])

/-- READ_ATTENTION, opcode 0x02 (R177). -/
def execReadAttention (b : Body) (s : State) : Answer := .next (request 0x02 b ownReadAttention s)

/-- READ_HOLD's owner (R179). -/
def ownReadHold (_ : List Byte) (s : State) : State × Reply := (s, okWith (holdPayload s))

/-- READ_HOLD, opcode 0x03 (R179). -/
def execReadHold (b : Body) (s : State) : Answer := .next (request 0x03 b ownReadHold s)

/-- The override a held record's class action gives a verdict's reservation (R84, R180). -/
def verdictOverride (s : State) (r : Part) : Bool :=
  match r.tag, r.grade with
  | some k, .byClass c => ((s.bank k).action c).override
  | _, _ => false

/-- The retest limit of a record's bank; a record tagged NONE is never HELD (R65), and none is allowed it (log entry 15). -/
def retestLimitOf (s : State) (r : Part) : Nat :=
  match r.tag with
  | some k => (s.bank k).lot.retestLimit
  | none => 0

/-- A verdict on a HELD pocket (R180 step 3, R181). -/
def rule (s : State) (p : PocketNo) (r : Part) (kind : VerdictKind) (dest : Dest) : State × Status :=
  match kind, dest with
  | .bin, .sweep => (dropHold (s.modPart p fun r => { r with state := .graded .sweep }) p, .ok)
  | .bin, .bin b =>
    if s.ptk.ring.gates[b] ≤ offsetOf s p then (s, .tooLate)
    else
      match reserve s b (verdictOverride s r) with
      | some t => (dropHold (t.modPart p fun r => { r with state := .graded (.bin b) }) p, .ok)
      | none => (s, .unavailable)
  | .retest, _ =>
    if r.retests < retestLimitOf s r then
      (dropHold (s.modPart p fun r => { r with retests := r.retests + 1, state := .retest }) p, .ok)
    else (s, .unavailable)

/-- VERDICT's ruling on any pocket below P: NOT_HELD unless the pocket is HELD (R180 step 2). -/
def judge (s : State) (p : PocketNo) (kind : VerdictKind) (dest : Dest) : State × Status :=
  match s.record p with
  | none => (s, .notHeld)
  | some r => if r.state = .held then rule s p r kind dest else (s, .notHeld)

/-- VERDICT's owner (R180, R181). -/
def ownVerdict (p : List Byte) (s : State) : State × Reply :=
  match p with
  | [n, k, b] =>
    match pocketOf s n, verdictKindOf k, destOf b with
    | some q, some kind, some dest =>
      let out := judge s q kind dest
      (out.1, ⟨out.2, verdictPayload out.1 q⟩)
    | _, _, _ => refuse s .badValue
  | _ => refuse s .badLength

/-- VERDICT, opcode 0x04 (R180). -/
def execVerdict (b : Body) (s : State) : Answer := .next (request 0x04 b ownVerdict s)

/-! ## The end of a transaction -/

/-- The owner of each opcode of Table 10.9 (R187). NOP is no request and has none. -/
def owners : List (Nat × (List Byte → State → State × Reply)) :=
  [(0x01, ownIdentify), (0x02, ownReadAttention), (0x03, ownReadHold), (0x04, ownVerdict),
   (0x10, ownSetRing), (0x11, ownStart), (0x12, ownStop), (0x13, ownClearTrack), (0x14, ownReadPocket),
   (0x15, ownReadDeviceCounts), (0x18, ownSetAux),
   (0x20, ownSetMeter), (0x21, ownRestoreMeter), (0x22, ownReadMeter),
   (0x30, ownWriteLot), (0x31, ownWriteEntry), (0x32, ownWriteClass), (0x33, ownCopyBank), (0x34, ownActivate),
   (0x35, ownReadBank), (0x36, ownReadLotCounts),
   (0x40, ownSetBin), (0x41, ownReadBin), (0x42, ownSwapBegin), (0x43, ownSwapDone),
   (0x50, ownSetDrift), (0x51, ownReadDrift), (0x52, ownClearDrift),
   (0x60, ownSetTrip), (0x61, ownTrip), (0x62, ownReadTrip), (0x63, ownClearTrip)]

/-- The owner an opcode byte hands its request to; `none` for an opcode outside Table 10.9 (R187). -/
def ownerOf (op : Byte) : Option (List Byte → State → State × Reply) := owners.lookup op.toNat

/-- What the complete bytes of a transaction ask, by the first case that applies (R171): nothing without a byte or with a
NOP, UNKNOWN, BAD_LENGTH for a truncated request, and otherwise the request's arrival at its owner. -/
def serveBytes (bs : List Byte) (s : State) : State :=
  match bs with
  | [] => s
  | op :: rest =>
    if op = 0 then s
    else
      match ownerOf op, arrivedBody rest with
      | none, _ => s.answer op (bare .unknown)
      | some _, none => s.answer op (bare .badLength)
      | some own, some b => settleTimers s (request op b own s)

/-- A rising nSCS, with the bits sampled on SDI in the transaction and how many were clocked out on SDO (as many, for SPI
moves both at once). Where no command has taken the transaction's opcode before, its bytes are served (R171). After a release
with nSCS active, the rise only ends the ignoring (R170). -/
def transactionEnd (received : List Bool) (clocked : Nat) (s : State) : State :=
  if s.ttp.held then s
  else if s.svl.ignoring then { s with svl := { s.svl with ignoring := false } }
  else
    match s.svl.outgoing with
    | none => s
    | some out =>
      let s1 := if s.svl.taken then s else serveBytes (bytesOfBits received) s
      { s1 with svl := s1.svl.ended out clocked }

/-- TRANSACTION_END: nSCS rises (R170 to R173). -/
def execTransactionEnd (received : List Bool) (clocked : Nat) (s : State) : Answer :=
  .next (transactionEnd received clocked s)

end Sys2Proof.Machine
end

