-- ==== Sys2Proof/Machine/Dispatch.lean ====
section
/-! DEFINITION. The commands and their meanings: one arm per row of spec/opcode_table.json. -/

namespace Sys2Proof.Machine

-- every row has its meaning
def exec (i : Instr) (s : State) : Host.Outcome State Fault Refusal :=
  match i with
  | .indexArrival home contact convalid order => Sys2Proof.Machine.execIndexArrival home contact convalid order s
  | .periodWrap => Sys2Proof.Machine.execPeriodWrap s
  | .loadArrival refsel => Sys2Proof.Machine.execLoadArrival refsel s
  | .overdueEpisodeStart => Sys2Proof.Machine.execOverdueEpisodeStart s
  | .safeActive => Sys2Proof.Machine.execSafeActive s
  | .actionComplete => Sys2Proof.Machine.execActionComplete s
  | .drainComplete bin => Sys2Proof.Machine.execDrainComplete bin s
  | .bankReturnsToStandby bank => Sys2Proof.Machine.execBankReturnsToStandby bank s
  | .frameArrival port frame => Sys2Proof.Machine.execFrameArrival port frame s
  | .triggerFrameSent port => Sys2Proof.Machine.execTriggerFrameSent port s
  | .meterTimeout port => Sys2Proof.Machine.execMeterTimeout port s
  | .gatePulseExpiry line => Sys2Proof.Machine.execGatePulseExpiry line s
  | .powerOnReset => Sys2Proof.Machine.execPowerOnReset s
  | .nreset => Sys2Proof.Machine.execNreset s
  | .resetRelease pins => Sys2Proof.Machine.execResetRelease pins s
  | .transactionStart => Sys2Proof.Machine.execTransactionStart s
  | .transactionEnd received clocked => Sys2Proof.Machine.execTransactionEnd received clocked s
  | .unknownOpcode opcode body => Sys2Proof.Machine.execUnknownOpcode opcode body s
  | .nop rest => Sys2Proof.Machine.execNop rest s
  | .identify body => Sys2Proof.Machine.execIdentify body s
  | .readAttention body => Sys2Proof.Machine.execReadAttention body s
  | .readHold body => Sys2Proof.Machine.execReadHold body s
  | .verdict body => Sys2Proof.Machine.execVerdict body s
  | .setRing body => Sys2Proof.Machine.execSetRing body s
  | .start body => Sys2Proof.Machine.execStart body s
  | .stop body => Sys2Proof.Machine.execStop body s
  | .clearTrack body => Sys2Proof.Machine.execClearTrack body s
  | .readPocket body => Sys2Proof.Machine.execReadPocket body s
  | .readDeviceCounts body => Sys2Proof.Machine.execReadDeviceCounts body s
  | .setAux body => Sys2Proof.Machine.execSetAux body s
  | .setMeter body => Sys2Proof.Machine.execSetMeter body s
  | .restoreMeter body => Sys2Proof.Machine.execRestoreMeter body s
  | .readMeter body => Sys2Proof.Machine.execReadMeter body s
  | .writeLot body => Sys2Proof.Machine.execWriteLot body s
  | .writeEntry body => Sys2Proof.Machine.execWriteEntry body s
  | .writeClass body => Sys2Proof.Machine.execWriteClass body s
  | .copyBank body => Sys2Proof.Machine.execCopyBank body s
  | .activate body => Sys2Proof.Machine.execActivate body s
  | .readBank body => Sys2Proof.Machine.execReadBank body s
  | .readLotCounts body => Sys2Proof.Machine.execReadLotCounts body s
  | .setBin body => Sys2Proof.Machine.execSetBin body s
  | .readBin body => Sys2Proof.Machine.execReadBin body s
  | .swapBegin body => Sys2Proof.Machine.execSwapBegin body s
  | .swapDone body => Sys2Proof.Machine.execSwapDone body s
  | .setDrift body => Sys2Proof.Machine.execSetDrift body s
  | .readDrift body => Sys2Proof.Machine.execReadDrift body s
  | .clearDrift body => Sys2Proof.Machine.execClearDrift body s
  | .setTrip body => Sys2Proof.Machine.execSetTrip body s
  | .trip body => Sys2Proof.Machine.execTrip body s
  | .readTrip body => Sys2Proof.Machine.execReadTrip body s
  | .clearTrip body => Sys2Proof.Machine.execClearTrip body s
  | .safeInactive => Sys2Proof.Machine.execSafeInactive s
  | .meterByteReceived port levels => Sys2Proof.Machine.execMeterByteReceived port levels s
  | .gpolPinChange high => Sys2Proof.Machine.execGpolPinChange high s

end Sys2Proof.Machine
end

