-- ==== Sys2Proof/Machine/Step.lean ====
section
/-! DEFINITION. One step: the command at the front of the queue, or one tick of time when no command waits. -/

namespace Sys2Proof.Machine

/-- One step. The command at the front runs on the state with the queue's rest; on an empty queue 0.1 ms passes (DESIGN
CHOICE, log entry 4). -/
def step (s : State) : Host.Outcome State Fault Refusal :=
  match s.pending with
  | [] => .next (tick s)
  | c :: rest => exec c { s with pending := rest }

/-- The state with the command a table word spells put at the front of the queue; no word spells one (log entry 2). -/
def State.withFetchWord (s : State) (nbits w : Nat) : State :=
  pushCommand s (decodeTableWord nbits w)

end Sys2Proof.Machine
end

