-- ==== Sys2Proof/Safety.lean ====
section
/-! DEFINITION. What a safe state of the K41 is: the laws of the spec that every command keeps, as predicates on the state. -/

namespace Sys2Proof.Machine

/-! ## Commands -/

/-- The opcode and body of a command that is a request of Table 10.9; NOP is none (R171, R187). -/
def requestOf : Instr → Option (Byte × Body)
  | .identify b => some (0x01, b)
  | .readAttention b => some (0x02, b)
  | .readHold b => some (0x03, b)
  | .verdict b => some (0x04, b)
  | .setRing b => some (0x10, b)
  | .start b => some (0x11, b)
  | .stop b => some (0x12, b)
  | .clearTrack b => some (0x13, b)
  | .readPocket b => some (0x14, b)
  | .readDeviceCounts b => some (0x15, b)
  | .setAux b => some (0x18, b)
  | .setMeter b => some (0x20, b)
  | .restoreMeter b => some (0x21, b)
  | .readMeter b => some (0x22, b)
  | .writeLot b => some (0x30, b)
  | .writeEntry b => some (0x31, b)
  | .writeClass b => some (0x32, b)
  | .copyBank b => some (0x33, b)
  | .activate b => some (0x34, b)
  | .readBank b => some (0x35, b)
  | .readLotCounts b => some (0x36, b)
  | .setBin b => some (0x40, b)
  | .readBin b => some (0x41, b)
  | .swapBegin b => some (0x42, b)
  | .swapDone b => some (0x43, b)
  | .setDrift b => some (0x50, b)
  | .readDrift b => some (0x51, b)
  | .clearDrift b => some (0x52, b)
  | .setTrip b => some (0x60, b)
  | .trip b => some (0x61, b)
  | .readTrip b => some (0x62, b)
  | .clearTrip b => some (0x63, b)
  | .indexArrival _ _ _ _ => none
  | .periodWrap => none
  | .loadArrival _ => none
  | .overdueEpisodeStart => none
  | .safeActive => none
  | .actionComplete => none
  | .drainComplete _ => none
  | .bankReturnsToStandby _ => none
  | .frameArrival _ _ => none
  | .triggerFrameSent _ => none
  | .meterTimeout _ => none
  | .gatePulseExpiry _ => none
  | .powerOnReset => none
  | .nreset => none
  | .resetRelease _ => none
  | .transactionStart => none
  | .transactionEnd _ _ => none
  | .unknownOpcode _ _ => none
  | .nop _ => none
  | .safeInactive => none
  | .meterByteReceived _ _ => none
  | .gpolPinChange _ => none

/-- Whether a command makes the request of an opcode: as that request's own command, or as the end of a transaction whose
first byte is the opcode (R171, R187). -/
def asks (op : Byte) (c : Instr) : Bool :=
  match requestOf c, c with
  | some (x, _), _ => x == op
  | none, .transactionEnd received _ => (bytesOfBits received).head? == some op
  | none, _ => false

/-- Whether a command is an index arrival, one that wraps the period among them (R9, R143). -/
def indexes : Instr → Bool
  | .indexArrival _ _ _ _ => true
  | .periodWrap => true
  | _ => false

/-- Whether a command is a load arrival, one that begins an overdue episode among them (R14, R146). -/
def loads : Instr → Bool
  | .loadArrival _ => true
  | .overdueEpisodeStart => true
  | _ => false

/-- Whether a command is one of the two resets (R37). -/
def isReset : Instr → Bool
  | .powerOnReset => true
  | .nreset => true
  | _ => false

/-- The body of a request with a payload: its length byte and its bytes (R171). -/
def bodyOf (p : List Byte) : Body := ⟨BitVec.ofNat 8 p.length, p⟩

/-- The value conditions of a ring configuration, as R22 lists them. -/
abbrev Ring.meets (r : Ring) : Prop :=
  (12 ≤ r.pockets ∧ r.pockets ≤ 32) ∧ r.contact < r.pockets ∧ (1 ≤ r.measure ∧ r.measure < r.pockets) ∧
    (1 ≤ r.verify ∧ r.verify < r.pockets) ∧ (1 ≤ r.decision ∧ r.decision < r.pockets) ∧
    (1 ≤ r.sweep ∧ r.sweep < r.pockets) ∧ (1 ≤ r.pulseWidth ∧ r.pulseWidth ≤ 255) ∧
    r.contact < r.measure ∧ r.measure < r.decision ∧ r.verify < r.decision ∧
    ∀ b : SortBin, 1 ≤ r.gates[b] ∧ r.gates[b] < r.pockets ∧ r.decision < r.gates[b] ∧ r.gates[b] < r.sweep

/-- The ranges of the lot parameters, as Table 5.3 lists them; verify is a flag and the reference bin a sort bin. -/
abbrev Lot.meets (l : Lot) : Prop :=
  (1000000 ≤ l.nominal ∧ l.nominal ≤ 9999999) ∧ (-3 ≤ l.exponent ∧ l.exponent ≤ 6) ∧
    (-2000 ≤ l.tcr ∧ l.tcr ≤ 2000) ∧ (-4000 ≤ l.tref ∧ l.tref ≤ 15000) ∧ l.guardBand ≤ 5000 ∧
    (1 ≤ l.agreement ∧ l.agreement ≤ 10000) ∧ l.retestLimit ≤ 3 ∧
    (-999999 ≤ l.refCertified ∧ l.refCertified ≤ 999999) ∧ (-2000 ≤ l.refTcr ∧ l.refTcr ≤ 2000)

/-- The conditions on a window entry, as R83 and R87 list them; its bins are sort bins. -/
abbrev WindowEntry.meets (w : WindowEntry) : Prop :=
  (-999999 ≤ w.lower ∧ w.lower ≤ 999999) ∧ (-999999 ≤ w.upper ∧ w.upper ≤ 999999) ∧ w.lower ≤ w.upper ∧
    w.spill.length ≤ 3 ∧ w.spill.Nodup ∧ w.primary ∉ w.spill

/-- The ranges of the drift parameters, as Table 8.2 lists them. -/
abbrev DriftConfig.meets (c : DriftConfig) : Prop :=
  (1 ≤ c.step ∧ c.step ≤ 255) ∧ (1 ≤ c.period ∧ c.period ≤ 64) ∧ c.hysteresis ≤ 1000 ∧
    (1 ≤ c.alarmLimit ∧ c.alarmLimit ≤ 10000) ∧ c.interval ≤ 65535

/-! ## The laws -/

/-- The ring's law: a configuration that SET_RING would take, the load pointer below P, and every record at P or above
EMPTY (R2, R3, R4, R22). -/
abbrev RingOk (s : State) : Prop :=
  s.ptk.ring.valid = true ∧ s.ptk.loadPointer < s.ptk.ring.pockets ∧
    ∀ p : PocketNo, s.ptk.ring.pockets ≤ p.val → s.record p = none

/-- Whether a pocket is HELD. -/
def isHeld (s : State) (p : PocketNo) : Bool := (s.record p).any fun r => r.state == .held

/-- Whether a hold entry agrees with its pocket's record: HELD, the same serial, the same class (R178). -/
def HoldEntry.agrees (s : State) (e : HoldEntry) : Bool :=
  (s.record e.pocket).any fun r => r.state == .held && r.serial == e.serial && r.grade == .byClass e.cls

/-- The hold list's law: at most 4 entries, each pocket once, exactly the HELD pockets, each entry with its record's
serial and class (R178). -/
abbrev HoldOk (s : State) : Prop :=
  s.svl.hold.length ≤ 4 ∧ (s.svl.hold.map HoldEntry.pocket).Nodup ∧
    (∀ e ∈ s.svl.hold, e.agrees s = true) ∧
    ∀ p : PocketNo, isHeld s p = true → p ∈ s.svl.hold.map HoldEntry.pocket

/-- The pockets GRADED with a sort bin and on the ring (R110). -/
def gradedFor (s : State) (b : SortBin) : List PocketNo :=
  allPockets.filter fun p => (s.record p).any fun r => r.state == .graded (.bin b)

/-- One sort bin's law: reserved counts its GRADED pockets (R110); the room law (R111); nothing reserved and no pulse in
CLOSED and EXCHANGE (R109); a DRAINING bin with nothing reserved waits for its pulse (R119); a capacity of at least 1
outside CLOSED (R108). -/
abbrev BinOk (s : State) (b : SortBin) : Prop :=
  (s.bin b).reserved = (gradedFor s b).length ∧
    (s.bin b).filled + (s.bin b).reserved ≤ (s.bin b).capacity + (s.bin b).margin ∧
    ((s.bin b).state = .closed ∨ (s.bin b).state = .exchange → (s.bin b).reserved = 0 ∧ pulseRunning s b = false) ∧
    ((s.bin b).state = .draining ∧ (s.bin b).reserved = 0 → pulseRunning s b = true) ∧
    ((s.bin b).state ≠ .closed → 1 ≤ (s.bin b).capacity)

/-- The bins' law, for every sort bin. -/
abbrev BinsOk (s : State) : Prop := ∀ b : SortBin, BinOk s b

/-- Whether a pocket is MEASURING. -/
def isMeasuring (s : State) (p : PocketNo) : Bool := (s.record p).any fun r => r.state == .measuring

/-- One meter port's law: at most 4 entries, each pocket once, each pocket MEASURING (R42); entries only on an ONLINE port
(R57, R58); the timer runs exactly while there is an entry (R57). -/
abbrev PortOk (s : State) (id : PortId) : Prop :=
  (s.port id).entries.length ≤ 4 ∧ ((s.port id).entries.map Outstanding.pocket).Nodup ∧
    (∀ e ∈ (s.port id).entries, isMeasuring s e.pocket = true) ∧
    ((s.port id).state ≠ .online → (s.port id).entries = []) ∧
    ((s.port id).timer.isSome = true ↔ (s.port id).entries ≠ [])

/-- Both ports' law; port A is never ABSENT (R40). -/
abbrev PortsOk (s : State) : Prop := PortOk s .a ∧ PortOk s .b ∧ s.portA.state ≠ .absent

/-- A port's counters balance against its list: sent is taken, lost, expired and outstanding together (R62). -/
abbrev MeterPort.Balances (m : MeterPort) : Prop :=
  m.counts.sent.toNat = m.counts.taken.toNat + m.counts.lost.toNat + m.counts.expired.toNat + m.entries.length

/-- None of the four counters of R62 has saturated. -/
abbrev MeterPort.Unsaturated (m : MeterPort) : Prop :=
  m.counts.sent.toNat < 65535 ∧ m.counts.taken.toNat < 65535 ∧ m.counts.lost.toNat < 65535 ∧
    m.counts.expired.toNat < 65535

/-- The occupied pockets tagged with a bank (R81). -/
def taggedWith (s : State) (k : BankId) : List PocketNo :=
  allPockets.filter fun p => (s.record p).any fun r => r.tag == some k

/-- One bank's law: the on-ring count is the number of occupied pockets with its tag, 0 in STANDBY and above 0 in
DRAINING (R81); no bank drains unless the other is ACTIVE (Table 5.2); the lot balance (R104). -/
abbrev BankOk (s : State) (k : BankId) : Prop :=
  (s.bank k).onRing = (taggedWith s k).length ∧
    ((s.bank k).state = .standby → (s.bank k).onRing = 0) ∧
    ((s.bank k).state = .draining → 0 < (s.bank k).onRing ∧ (s.bank (otherBank k)).state = .active)

/-- The banks' law: each bank's, at most one bank ACTIVE (R81), and a bank ACTIVE in RUN (R15). -/
abbrev BanksOk (s : State) : Prop :=
  BankOk s .a ∧ BankOk s .b ∧ ¬(s.bankA.state = .active ∧ s.bankB.state = .active) ∧
    (s.ptk.opState = .run → (activeBank s).isSome = true)

/-- A bank's lot balance: loaded is the exits, the cleared and the parts on the ring, modulo 2^32 (R104). -/
abbrev LotBalances (s : State) (k : BankId) : Prop :=
  (s.bank k).counts.loaded =
    (s.bank k).counts.exits.toList.sum + (s.bank k).counts.cleared + BitVec.ofNat 32 (s.bank k).onRing

/-- The retest law: no record's retest count exceeds the retest limit of its bank (R101). -/
abbrev RetestsOk (s : State) : Prop :=
  ∀ p : PocketNo, (s.record p).all (fun r => r.tag.all fun k => decide (r.retests ≤ (s.bank k).lot.retestLimit)) = true

/-- The drift monitor's law: parameters in their ranges, both offsets within 10,000 ppm, the period counter 0 to 63
(Tables 8.1 and 8.2, R143). -/
abbrev DriftOk (s : State) : Prop :=
  s.drm.config.inRange = true ∧ -10000 ≤ s.drm.target ∧ s.drm.target ≤ 10000 ∧ -10000 ≤ s.drm.applied ∧
    s.drm.applied ≤ 10000 ∧ s.drm.periodCount ≤ 63

/-- The trip law: TRIPPED exactly while the cause set is not empty (R156); the drift latch only while TRIPPED (R150); the
action complete flag only while TRIPPED, and set there when the ring is empty (R162). -/
abbrev TripOk (s : State) : Prop :=
  (s.ptk.opState = .tripped ↔ s.trc.causes ≠ .none) ∧
    (s.drm.latch = true → s.ptk.opState = .tripped) ∧
    (s.trc.complete = true → s.ptk.opState = .tripped) ∧
    (s.ptk.opState = .tripped → s.trc.complete = false → 0 < occupiedCount s)

/-- The supervisor link's law: a next response and a taken opcode only within a transaction, and no transaction while the
link ignores the bus (R170, R172). -/
abbrev LinkOk (s : State) : Prop :=
  (s.svl.outgoing = none → s.svl.next = none ∧ s.svl.taken = false) ∧ (s.svl.ignoring = true → s.svl.outgoing = none) ∧
    (s.svl.taken = false → s.svl.next = none)

/-- The law of a held reset: every block stands at its reset values; the trip record and count may be kept (R37, R169). -/
abbrev HeldOk (s : State) : Prop :=
  s.ttp.held = true →
    s.ptk = .reset ∧ s.ttp.aux = Ttp.resetAux ∧ s.portA = .reset s.portA.state ∧ s.portB = .reset s.portB.state ∧
      s.bankA = .reset ∧ s.bankB = .reset ∧ s.bins = Vector.replicate 15 .reset ∧ s.gates = Vector.replicate 16 none ∧
      s.drm = .reset ∧ s.trc = .reset s.trc.record s.trc.count ∧ s.svl = .reset

end Sys2Proof.Machine
end

