-- ==== Sys2Proof/Certificates/Slice0/Obligations.lean ====
section
/-! DEFINITION. The statements for the provers, each `Obligations.<Name> : Prop`. OBLIGATIONS.json says of each which
rules of spec/ it formalises. An equation `exec c s = .next t` says the result and the frame at once: every field that `t`
does not replace is as it was. -/

section

open Sys2Proof Sys2Proof.Machine

/-! ## The queue and the tick -/

/-- A step takes the command at the front of the queue and runs it on the state with the queue's rest. The queue is the
model's own (log entry 2). -/
def Obligations.StepRunsTheFrontCommand : Prop :=
  ∀ (c : Instr) (rest : List Instr) (s : State),
    step { s with pending := c :: rest } = exec c { s with pending := rest }

/-- Every command ends in a next state, and leaves the queue and the count of ticks (the model's own fields, log entries 2
and 5) as they are. -/
def Obligations.EveryCommandLeavesTheQueue : Prop :=
  ∀ (c : Instr) (s : State), ∃ t, exec c s = .next t ∧ t.pending = s.pending ∧ t.ticks = s.ticks

/-- On an empty queue 0.1 ms passes (DESIGN CHOICE, log entry 4). A pulse that has run its width ends and every other running
pulse is 0.1 ms further on (R134). A meter timer that has reached its value expires: the port is FAULTED, its entries are
lost, METER_FAULT is raised and the trip follows where it is set (R57, R58). With the setting off every port that is due
expires, and every other port, and all but the records of the lost entries, is not affected but for the age: each entry is
0.1 ms older, up to 2,550 (R58, R61). With the setting on, the other port is left as the fault and its trip leave it, and then
expires where its timer is due there, or ages; where both are due, which goes first is a free value (log entry 5). -/
def Obligations.IdleTickRunsTheTimers : Prop :=
  ∀ s : State, s.pending = [] →
    (s.ttp.held = true → step s = .next s) ∧
    (s.ttp.held = false → ∃ t, step s = .next t ∧ t.ticks = s.ticks + 1 ∧
      (∀ l p, s.pulse l = some p →
        t.pulse l = if p.width ≤ p.elapsed then none else some { p with elapsed := p.elapsed + 1 }) ∧
      (∀ l, s.pulse l = none → t.pulse l = none) ∧
      (let due := fun (u : State) (id : PortId) =>
        ∃ v e, (u.port id).timer = some v ∧ (u.port id).entries.head? = some e ∧ 10 * v ≤ e.age
       let older := fun m : MeterPort =>
        { m with entries := m.entries.map fun e => { e with age := min 2550 (e.age + 1) } }
       let faulted := fun m : MeterPort =>
        { m with
          state := .faulted, entries := [], timer := none, txQueue := [],
          counts :=
            { m.counts with
              lost := satAdd m.counts.lost m.entries.length, timeouts := satAdd m.counts.timeouts 1 } }
       let expires := fun id other : PortId =>
        t.port id = faulted (s.port id) ∧ t.svl.attention.meterFault = true ∧
        (s.trc.config.onMeterFault = true →
          t.ptk.opState = .tripped ∧ t.trc.causes.has (match id with | .a => .meterA | .b => .meterB) = true) ∧
        (due (meterFault s id) other → t.port other = faulted ((meterFault s id).port other)) ∧
        (¬due (meterFault s id) other → t.port other = older ((meterFault s id).port other))
       (∀ id other, other ≠ id → due s id → ¬due s other → expires id other) ∧
       (due s .a → due s .b → expires .a .b ∨ expires .b .a) ∧
       (s.trc.config.onMeterFault = false ∨ (¬due s .a ∧ ¬due s .b) →
        (∀ id, (due s id → t.port id = faulted (s.port id)) ∧ (¬due s id → t.port id = older (s.port id))) ∧
        (∀ id, due s id → ∀ e ∈ (s.port id).entries, ∀ r, t.record e.pocket = some r → r.result id = some .lost) ∧
        (∀ q, (∀ id, due s id → ∀ e ∈ (s.port id).entries, e.pocket ≠ q) → t.record q = s.record q) ∧
        t.ptk = { s.ptk with records := t.ptk.records } ∧ t.trc = s.trc ∧ t.drm = s.drm ∧ t.ttp = s.ttp ∧
        t.bankA = s.bankA ∧ t.bankB = s.bankB ∧
        t.svl = { s.svl with attention := t.svl.attention } ∧
        (t.svl.attention.meterFault = true ↔ s.svl.attention.meterFault = true ∨ due s .a ∨ due s .b))))

/-! ## Resets, straps and output lines -/

/-- What the two resets leave (Tables 1.1, 5.3, 6.1, 8.1, 8.2, 9.1 and 9.2, R2 to R5, R18, R26, R35, R41 to R43, R64, R80, R104,
R108, R127, R138, R154, R172, R176, R178): both set every block to the values spelled out here, and only nRESET keeps the trip
record and the trip count. What the latched straps, the pin levels and the port states show until the release is the model's
choice (log entry 14), and so is the value of the model's own field `collected` (log entry 19). -/
def Obligations.ResetsSetEveryBlock : Prop :=
  ∀ s : State,
    let ring : Ring :=
      { pockets := 24, contact := 1, measure := 3, verify := 5, decision := 7,
        gates := #v[8, 9, 10, 11, 12, 13, 14, 15, 16, 17, 18, 19, 20, 21, 22], sweep := 23, pulseWidth := 30 }
    let port := fun st : PortState =>
      ({ state := st, seq := 0, entries := [], held := none, timeoutMs := 20, timer := none, txSending := none,
         txQueue := [], rx := [],
         counts :=
          { sent := 0, taken := 0, crcErrors := 0, formatErrors := 0, stray := 0, lost := 0, skipped := 0,
            expired := 0, timeouts := 0 } } : MeterPort)
    let bank : Bank :=
      { state := .standby,
        lot :=
          { nominal := 1000000, exponent := 0, tcr := 0, tref := 2500, guardBand := 0, verify := false, agreement := 100,
            retestLimit := 0, refCertified := 0, refTcr := 0, refBin := ⟨15 - 1, by omega⟩ },
        entries :=
          Vector.replicate 16 { valid := false, lower := 0, upper := 0, primary := ⟨1 - 1, by omega⟩, spill := [] },
        actions := Vector.replicate 9 { kind := .bin, dest := .sweep, override := false, good := false },
        onRing := 0,
        counts :=
          { loaded := 0, exits := Vector.replicate 16 0, cleared := 0, good := 0, referenceExits := 0,
            classes := Vector.replicate 9 0, retestRevs := 0, verdictsExpired := 0 } }
    let leaves := fun (por : Bool) (record : TripRecord) (count : Count16) =>
      ({ s with
         ptk :=
          { ring := ring, loadPointer := 0, records := Vector.replicate 32 none, serial := 1, opState := .idle,
            indexCount := 0, conflicts := 0, untracked := 0 },
         ttp :=
          { s.ttp with
            aux := #v[.ready, .refReq, .tripped, .off], held := true,
            porSince := if por then true else s.ttp.porSince },
         portA := port s.portA.state, portB := port s.portB.state, bankA := bank, bankB := bank,
         bins :=
          Vector.replicate 15
            { state := .closed, capacity := 0, margin := 0, filled := 0, reserved := 0, boxSeq := 0 },
         gates := Vector.replicate 16 none,
         drm :=
          { target := 0, applied := 0, periodCount := 0, lastSample := none, latch := false, overdueCount := 0,
            overdueFlag := false, samples := 0, badRefs := 0,
            config := { step := 4, period := 8, hysteresis := 10, alarmLimit := 500, interval := 0 } },
         trc :=
          { config := { action := .rejectAll, halt := true, onMeterFault := true },
            causes := ⟨false, false, false, false, false, false⟩, complete := false, record := record, count := count },
         svl :=
          { pending := { opcode := 0, status := .ok, payload := [] }, outgoing := none, next := none, taken := false,
            ignoring := false, collected := none, attention := ⟨false, false, false, false, false, false, false, false⟩,
            hold := [] } } : State)
    exec .powerOnReset s = .next (leaves true .empty 0) ∧
    exec .nreset s = .next (leaves false s.trc.record s.trc.count)

/-- What the release of reset does (R37 to R40, R170): straps, restart cause, auxiliary assignment, starting levels, port
states; an active SAFE is then a trip trigger. With no reset held there is no release (log entry 13). -/
def Obligations.ReleaseLatchesTheStraps : Prop :=
  ∀ (pins : ReleasePins) (s : State),
    (s.ttp.held = false → exec (.resetRelease pins) s = .next s) ∧
    (s.ttp.held = true →
      let s1 : State :=
        { s with
          ttp :=
            { mportsTwo := pins.mports, gpolHigh := pins.gpol,
              restartCause := if s.ttp.porSince then .powerOn else .resetLine,
              aux := #v[.ready, .refReq, .tripped, .off], safeActive := pins.safe, indexLevel := pins.index,
              loadLevel := pins.load, gpolPin := pins.gpol, held := false, porSince := false },
          portA := { s.portA with state := .online },
          portB := { s.portB with state := if pins.mports then .online else .absent },
          svl := { s.svl with ignoring := pins.nscs } }
      exec (.resetRelease pins) s = .next (if pins.safe then tripTrigger s1 .safe else s1))

/-- While a reset is held, no command but the resets, the release and the GPOL pin has an effect (R27, R170; the queue's
part is log entry 13). -/
def Obligations.HeldResetHearsNothing : Prop :=
  ∀ (c : Instr) (s : State), s.ttp.held = true → isReset c = false → (∀ pins, c ≠ .resetRelease pins) →
    (∀ h, c ≠ .gpolPinChange h) → exec c s = .next s

/-- The output lines follow their conditions (R32 to R35, R137), stand at the levels of Table 2.3 while a reset is held,
and a change of the GPOL pin moves nothing else (R38). -/
def Obligations.OutputLinesFollowTheirConditions : Prop :=
  ∀ s : State,
    (s.ttp.held = true →
      loadInh s = true ∧ haltReq s = false ∧ attn s = false ∧ (∀ i, auxLine s i = false) ∧
        ((∀ l, s.pulse l = none) → ∀ l, gateLine s l = s.ttp.gpolPin)) ∧
    (s.ttp.held = false →
      (loadInh s = true ↔ s.ptk.opState ≠ .run ∨ s.record (pocketAt s 0) ≠ none) ∧
      (haltReq s = true ↔
        (s.ptk.opState = .tripped ∧ s.trc.config.halt = true) ∨ s.svl.hold.length = 4) ∧
      (attn s = true ↔ ∃ f, s.svl.attention.has f = true) ∧
      (∀ i, auxLine s i = true ↔
        match s.ttp.aux[i] with
        | .off => False
        | .ready => s.ptk.opState = .run
        | .refReq => s.drm.overdueFlag = true ∨ s.drm.latch = true
        | .drift => s.drm.latch = true
        | .tripped => s.ptk.opState = .tripped
        | .anyFull => ∃ b, (s.bin b).state = .full ∨ (s.bin b).state = .draining ∨ (s.bin b).state = .exchange
        | .holdWait => s.svl.hold ≠ []
        | .meterFault => s.portA.state = .faulted ∨ s.portB.state = .faulted) ∧
      (∀ l, gateLine s l = if s.ttp.gpolHigh then (s.pulse l).isNone else (s.pulse l).isSome)) ∧
    ∀ h, exec (.gpolPinChange h) s = .next { s with ttp := { s.ttp with gpolPin := h } }

/-! ## The turret's events -/

/-- An index arrival is the contact verdict, the advance and the HOME correction, then each block's share exactly once, in
the order the command names first (DESIGN CHOICE, log entry 6; R9, R11, R28), and then the expiry of a timer that it moved on
to an entry already past its timeout (R57). The shares: the SLIP trip where HOME found a slip (R11), the passes (R12, R13), the
triggers of both ports (R44 to R46), the grading (R95), the pulse ends, fires and sweep (R128 to R134), the period count
(R143). -/
def Obligations.IndexArrivalTakesEveryShareOnce : Prop :=
  ∀ (home contact convalid : Bool) (order : List Share) (s : State),
    (s.ttp.held = false →
      exec (.indexArrival home contact convalid order) s = .next
        (settleTimers s
          ((fullOrder order).foldl
            (takeShare (home && ((s.ptk.loadPointer + 1) % s.ptk.ring.pockets != 0)))
            (arrive home contact convalid s)))) ∧
    (takeShare true s .slip = tripTrigger s .slip ∧ takeShare false s .slip = s ∧
      ∀ slipped,
        takeShare slipped s .passes = passShare s ∧
        takeShare slipped s .triggers = triggerAt (triggerAt s .a) .b ∧
        takeShare slipped s .grading = gradeAtDecision s ∧
        takeShare slipped s .gates = sweepAtW (fireGates (endAllPulses s)) ∧
        takeShare slipped s .drift = { s with drm := s.drm.counted }) ∧
    (fullOrder order).Perm [.slip, .passes, .triggers, .grading, .gates, .drift] ∧
    (order.Nodup → order <+: fullOrder order)

/-- Every index arrival advances the ring, whatever the order of its shares: the load pointer rises by one modulo P, or
becomes 0 with HOME; the device index counter rises by one; the ring configuration, the serial counter and the device
diagnostic counters stay; without HOME the pocket at offset k stands at offset k + 1 modulo P (R3, R9, R11). The offset of
pocket p is (L - p) modulo P, and the pocket at offset k is (L - k) modulo P (R3). -/
def Obligations.IndexArrivalAdvancesTheRing : Prop :=
  ∀ (home contact convalid : Bool) (order : List Share) (s : State), s.ttp.held = false → RingOk s →
    ∃ t, exec (.indexArrival home contact convalid order) s = .next t ∧
      t.ptk.loadPointer = (if home then 0 else (s.ptk.loadPointer + 1) % s.ptk.ring.pockets) ∧
      t.ptk.indexCount = s.ptk.indexCount + 1 ∧ t.ptk.ring = s.ptk.ring ∧ t.ptk.serial = s.ptk.serial ∧
      t.ptk.conflicts = s.ptk.conflicts ∧ t.ptk.untracked = s.ptk.untracked ∧
      (home = false → ∀ k, k < s.ptk.ring.pockets → pocketAt t ((k + 1) % s.ptk.ring.pockets) = pocketAt s k) ∧
      (∀ k, k < s.ptk.ring.pockets →
        ((pocketAt s k).val : Int) = ((s.ptk.loadPointer : Int) - k) % s.ptk.ring.pockets) ∧
      ∀ p : PocketNo, p.val < s.ptk.ring.pockets →
        (offsetOf s p : Int) = ((s.ptk.loadPointer : Int) - p.val) % s.ptk.ring.pockets

/-- The Pocket Track's own part of an arrival moves the load pointer, the index counter and the INDEX level and writes the
contact verdict, and leaves everything else as it is (R9 to R11, R28): the verdict goes to the MEASURING pocket that stood at
the contact station before the advance, and to no other record (R10); a RETEST or RECIRC record found at offset 0 has its
results cleared and becomes MEASURING, a RETEST pass raises its bank's retest revolutions, and every other pocket at offset 0
is left as it is (R12, R13). -/
def Obligations.ContactVerdictAndPassesAtOffsetZero : Prop :=
  (∀ (home contact convalid : Bool) (s t : State), arrive home contact convalid s = t →
    t =
      { s with
        ptk :=
          { s.ptk with
            records := t.ptk.records,
            loadPointer := if home then 0 else (s.ptk.loadPointer + 1) % s.ptk.ring.pockets,
            indexCount := s.ptk.indexCount + 1 },
        ttp := { s.ttp with indexLevel := true } } ∧
    ∀ q, t.record q =
      if convalid = true ∧ s.ptk.ring.contact ≠ 0 ∧ q = pocketAt s s.ptk.ring.contact then
        (s.record q).map fun r =>
          if r.state = .measuring then { r with contact := some (if contact then .pass else .fail) } else r
      else s.record q) ∧
  ∀ (slipped : Bool) (s : State),
    (s.record (pocketAt s 0) = none → takeShare slipped s .passes = s) ∧
    ∀ r, s.record (pocketAt s 0) = some r →
      let s1 := s.setRecord (pocketAt s 0)
        (some { state := .measuring, serial := r.serial, tag := r.tag, kind := r.kind, retests := r.retests,
                contact := none, measure := none, verify := none, deviation := none, grade := .ungraded })
      (r.state = .recirc → takeShare slipped s .passes = s1) ∧
      (r.state = .retest → ∀ k, r.tag = some k →
        takeShare slipped s .passes =
          s1.modBank k fun b => { b with counts := { b.counts with retestRevs := b.counts.retestRevs + 1 } }) ∧
      (r.state ≠ .recirc → r.state ≠ .retest → takeShare slipped s .passes = s)

/-- The outcomes of a load arrival (Table 1.5, R15, R16, R17): on an EMPTY pocket a record is created, MEASURING where the
load is admitted and VOID where it is not, with the next serial and the tag of the ACTIVE bank; on an occupied pocket the
record is voided and the conflict counted, and a timer moved on to an entry already past its timeout then expires (R57). -/
def Obligations.LoadArrivalOutcomes : Prop :=
  ∀ (refsel : Bool) (s : State), s.ttp.held = false →
    (activeBank s =
      if s.bankA.state = .active then some .a else if s.bankB.state = .active then some .b else none) ∧
    ∃ t, exec (.loadArrival refsel) s = .next (settleTimers s t) ∧
      (s.record (pocketAt s 0) = none → settleTimers s t = t) ∧
      t.ptk.ring = s.ptk.ring ∧ t.ptk.loadPointer = s.ptk.loadPointer ∧ t.ptk.opState = s.ptk.opState ∧
      t.ptk.indexCount = s.ptk.indexCount ∧ t.gates = s.gates ∧ t.trc = s.trc ∧
      t.ttp = { s.ttp with loadLevel := true } ∧
      (∀ q, q ≠ pocketAt s 0 → t.record q = s.record q) ∧
      (s.record (pocketAt s 0) = none →
        (∃ st, (st = .measuring ↔ s.ptk.opState = .run ∨ (refsel = true ∧ (activeBank s).isSome = true)) ∧
          (st = .measuring ∨ st = .void) ∧
          t.record (pocketAt s 0) = some
            { state := st, serial := s.ptk.serial, tag := activeBank s,
              kind := if refsel then .reference else .product, retests := 0, contact := none, measure := none,
              verify := none, deviation := none, grade := .ungraded } ∧
          (st = .measuring ∧ refsel = false →
            t.drm = (productLoad s).drm ∧ t.svl = (productLoad s).svl) ∧
          (st = .void ∨ refsel = true → t.drm = s.drm ∧ t.svl = s.svl)) ∧
        t.ptk.serial = s.ptk.serial + 1 ∧ t.ptk.conflicts = s.ptk.conflicts ∧ t.bins = s.bins ∧
        t.portA = s.portA ∧ t.portB = s.portB ∧
        t.ptk.untracked = (if activeBank s = none then satAdd s.ptk.untracked 1 else s.ptk.untracked) ∧
        ∀ k, t.bank k =
          if activeBank s = some k then
            { s.bank k with
              onRing := (s.bank k).onRing + 1,
              counts := { (s.bank k).counts with loaded := (s.bank k).counts.loaded + 1 } }
          else s.bank k) ∧
      (∀ r, s.record (pocketAt s 0) = some r →
        t.record (pocketAt s 0) = some
          (if r.state = .void then r
           else
            { r with
              state := .void, contact := none, measure := none, verify := none, deviation := none,
              grade := .ungraded }) ∧
        t.ptk.serial = s.ptk.serial ∧ t.ptk.conflicts = satAdd s.ptk.conflicts 1 ∧
        t.ptk.untracked = s.ptk.untracked ∧ t.bankA = s.bankA ∧ t.bankB = s.bankB ∧ t.drm = s.drm ∧
        t.bins = (voidPocket s (pocketAt s 0)).bins ∧ t.portA = (voidPocket s (pocketAt s 0)).portA ∧
        t.portB = (voidPocket s (pocketAt s 0)).portB ∧ t.svl = (voidPocket s (pocketAt s 0)).svl)

/-- SAFE becoming active is a trip trigger with cause SAFE, with the expiry that may follow it at once (R57); while it stays
active it gives no further trigger (log entry 16); becoming inactive only changes the level (R30). -/
def Obligations.SafeLineTriggersATrip : Prop :=
  ∀ s : State, s.ttp.held = false →
    (s.ttp.safeActive = false →
      exec .safeActive s = .next
        (settleTimers s (tripTrigger { s with ttp := { s.ttp with safeActive := true } } .safe))) ∧
    (s.ttp.safeActive = true → exec .safeActive s = .next s) ∧
    exec .safeInactive s = .next { s with ttp := { s.ttp with safeActive := false } }

/-- SET_AUX (R36): not in RUN, each code within 0 to 7, no code other than 0 twice, in that order; an accepted request
replaces all four assignments; every answer carries the four codes in force after it. -/
def Obligations.SetAuxChecksAndAssigns : Prop :=
  ∀ (a b c d : Byte) (s : State), takesRequest s = true →
    (s.ptk.opState = .run →
      exec (.setAux (bodyOf [a, b, c, d])) s = .next
        (s.answer 0x18 ⟨.wrongState, s.ttp.aux.toList.map AuxFn.code⟩)) ∧
    (s.ptk.opState ≠ .run → (∃ x ∈ [a, b, c, d], 7 < x.toNat) →
      exec (.setAux (bodyOf [a, b, c, d])) s = .next
        (s.answer 0x18 ⟨.badValue, s.ttp.aux.toList.map AuxFn.code⟩)) ∧
    (s.ptk.opState ≠ .run → (∀ x ∈ [a, b, c, d], x.toNat ≤ 7) → ¬([a, b, c, d].filter fun x => x != 0).Nodup →
      exec (.setAux (bodyOf [a, b, c, d])) s = .next
        (s.answer 0x18 ⟨.badValue, s.ttp.aux.toList.map AuxFn.code⟩)) ∧
    (s.ptk.opState ≠ .run → (∀ x ∈ [a, b, c, d], x.toNat ≤ 7) → ([a, b, c, d].filter fun x => x != 0).Nodup →
      ∃ fs : Vector AuxFn 4, fs.toList.map AuxFn.code = [a, b, c, d] ∧
        exec (.setAux (bodyOf [a, b, c, d])) s = .next
          ({ s with ttp := { s.ttp with aux := fs } }.answer 0x18 ⟨.ok, [a, b, c, d]⟩))

/-! ## The track's requests -/

/-- START and STOP (R19, R20) and SET_RING (R22, R23), by operating state (Table 1.6) and by SET_RING's checks in order. -/
def Obligations.TrackRequestsByOperatingState : Prop :=
  ∀ s : State, takesRequest s = true →
    (s.ptk.opState = .tripped →
      exec (.start (bodyOf [])) s = .next (s.answer 0x11 ⟨.wrongState, []⟩) ∧
        exec (.stop (bodyOf [])) s = .next (s.answer 0x12 ⟨.wrongState, []⟩)) ∧
    (s.ptk.opState = .run →
      exec (.start (bodyOf [])) s = .next (s.answer 0x11 ⟨.ok, []⟩) ∧
        exec (.stop (bodyOf [])) s = .next
          ({ s with ptk := { s.ptk with opState := .idle } }.answer 0x12 ⟨.ok, []⟩)) ∧
    (s.ptk.opState = .idle →
      exec (.stop (bodyOf [])) s = .next (s.answer 0x12 ⟨.ok, []⟩) ∧
        (s.bankA.state = .active ∨ s.bankB.state = .active →
          exec (.start (bodyOf [])) s = .next
            ({ s with ptk := { s.ptk with opState := .run } }.answer 0x11 ⟨.ok, []⟩)) ∧
        (s.bankA.state ≠ .active → s.bankB.state ≠ .active →
          exec (.start (bodyOf [])) s = .next (s.answer 0x11 ⟨.condition, []⟩))) ∧
    ∀ p : List Byte, p.length = 22 →
      (s.ptk.opState ≠ .idle → exec (.setRing (bodyOf p)) s = .next (s.answer 0x10 ⟨.wrongState, []⟩)) ∧
      (s.ptk.opState = .idle → (∃ q : PocketNo, q.val < s.ptk.ring.pockets ∧ s.record q ≠ none) →
        exec (.setRing (bodyOf p)) s = .next (s.answer 0x10 ⟨.condition, []⟩)) ∧
      (s.ptk.opState = .idle → (∀ q : PocketNo, q.val < s.ptk.ring.pockets → s.record q = none) →
        (¬(ringOf p).meets → exec (.setRing (bodyOf p)) s = .next (s.answer 0x10 ⟨.badValue, []⟩)) ∧
        ((ringOf p).meets →
          exec (.setRing (bodyOf p)) s = .next
            ({ s with
               ptk :=
                 { s.ptk with
                   ring := ringOf p,
                   loadPointer :=
                     if s.ptk.loadPointer < (ringOf p).pockets then s.ptk.loadPointer else 0 } }.answer
              0x10 ⟨.ok, []⟩)))

/-- CLEAR_TRACK (R24, R54): refused in RUN; otherwise the ring is emptied with each bank's cleared counter and departure
reports, both ports' lists and the hold list are emptied, a drain or a bank's draining is completed where the last one goes,
with SWAP_READY or BANK_FREE raised exactly then, a trip's action is complete where a part was taken in TRIPPED (R162), and the
rest stays. -/
def Obligations.ClearTrackEmptiesTheRing : Prop :=
  ∀ s : State, takesRequest s = true →
    (s.ptk.opState = .run → exec (.clearTrack (bodyOf [])) s = .next (s.answer 0x13 ⟨.wrongState, []⟩)) ∧
    (s.ptk.opState ≠ .run → RingOk s →
      ∃ t : State, exec (.clearTrack (bodyOf [])) s = .next
          (t.answer 0x13 ⟨.ok, [BitVec.ofNat 8 (occupiedCount s)]⟩) ∧
        t.ptk = { s.ptk with records := Vector.replicate 32 none } ∧ t.ttp = s.ttp ∧ t.gates = s.gates ∧
        t.drm = s.drm ∧ t.svl = { s.svl with hold := [], attention := t.svl.attention } ∧
        t.svl.attention =
          { s.svl.attention with
            swapReady := t.svl.attention.swapReady, bankFree := t.svl.attention.bankFree } ∧
        (∀ id, t.port id = { s.port id with entries := [], timer := none, txQueue := [] }) ∧
        (∀ b, (t.bin b).capacity = (s.bin b).capacity ∧ (t.bin b).margin = (s.bin b).margin ∧
          (t.bin b).filled = (s.bin b).filled ∧ (t.bin b).boxSeq = (s.bin b).boxSeq ∧
          (t.bin b).reserved = (s.bin b).reserved - (gradedFor s b).length ∧
          (t.bin b).state =
            if (s.bin b).state = .draining ∧ 0 < (gradedFor s b).length ∧
                (s.bin b).reserved ≤ (gradedFor s b).length ∧ pulseRunning s b = false then .exchange
            else (s.bin b).state) ∧
        (∀ k, (t.bank k).lot = (s.bank k).lot ∧ (t.bank k).entries = (s.bank k).entries ∧
          (t.bank k).actions = (s.bank k).actions ∧
          (t.bank k).onRing = (s.bank k).onRing - (taggedWith s k).length ∧
          (t.bank k).state =
            (if (s.bank k).state = .draining ∧ 0 < (taggedWith s k).length ∧
                (s.bank k).onRing ≤ (taggedWith s k).length then .standby
             else (s.bank k).state) ∧
          (t.bank k).counts =
            { (s.bank k).counts with
              cleared := (s.bank k).counts.cleared + BitVec.ofNat 32 (taggedWith s k).length }) ∧
        (t.svl.attention.swapReady = true ↔
          s.svl.attention.swapReady = true ∨ ∃ b, (s.bin b).state = .draining ∧ (t.bin b).state = .exchange) ∧
        (t.svl.attention.bankFree = true ↔
          s.svl.attention.bankFree = true ∨ ∃ k, (s.bank k).state = .draining ∧ (t.bank k).state = .standby) ∧
        t.trc = { s.trc with complete := t.trc.complete } ∧
        (t.trc.complete = true ↔ s.trc.complete = true ∨ (s.ptk.opState = .tripped ∧ 0 < occupiedCount s)))

/-- The reads that change nothing but the response held (R25, R26, R61, R90, R106, R126, R152, R175, R179): each answers OK with
the payload of Table 10.11 on the state at the arrival, field by field, or BAD_VALUE for a number or code out of range; and
READ_ATTENTION, which returns the flags set and clears exactly those (R177). That the entry and the bin of an EMPTY record are
sent as 0xFF is DEDUCED (log entry 28). -/
def Obligations.ReadsReportTheState : Prop :=
  ([OpState.idle, .run, .tripped].map OpState.code = [0, 1, 2] ∧
    [BankState.standby, .active, .draining].map BankState.code = [0, 1, 2] ∧
    [BinState.closed, .opened, .full, .draining, .exchange].map BinState.code = [0, 1, 2, 3, 4] ∧
    [PortState.online, .faulted, .absent].map PortState.code = [0, 1, 2] ∧
    (∀ d, [PartState.measuring, .graded d, .held, .retest, .recirc, .void].map PartState.code = [1, 2, 3, 4, 5, 6]) ∧
    [none, some BankId.a, some BankId.b].map tagCode = [0, 1, 2] ∧
    [none, some Contact.pass, some Contact.fail].map contactCode = [0, 1, 2] ∧
    ∀ a : Attention,
      let set := [a.holdWaiting, a.binFull, a.swapReady, a.bankFree, a.driftAlarm, a.refOverdue, a.meterFault, a.trip]
      (List.range 8).map a.byte.getLsbD = set ∧
      [Flag.holdWaiting, .binFull, .swapReady, .bankFree, .driftAlarm, .refOverdue, .meterFault, .trip].map a.has = set ∧
      ∀ f g, (a.raise f).has g = true ↔ g = f ∨ a.has g = true) ∧
  (let u8 := fun n : Nat => BitVec.ofNat 8 n
   let flag := fun b : Bool => if b then (1 : Byte) else 0
   let sample := fun v : Option Int => flag v.isSome :: signedBytesOf 3 (v.getD 0)
   let result := fun x : Option StationResult =>
    match x with
    | none => ([0, 0, 0, 0, 0, 0, 0] : List Byte)
    | some (.ok m e t) => 1 :: (bytesOf 3 m ++ signedBytesOf 1 e ++ signedBytesOf 2 t)
    | some .openCircuit => [2, 0, 0, 0, 0, 0, 0]
    | some .short => [3, 0, 0, 0, 0, 0, 0]
    | some .overload => [4, 0, 0, 0, 0, 0, 0]
    | some .invalid => [5, 0, 0, 0, 0, 0, 0]
    | some .skipped => [6, 0, 0, 0, 0, 0, 0]
    | some .lost => [7, 0, 0, 0, 0, 0, 0]
   let record := fun x : Option Part =>
    match x with
    | none => List.replicate 27 (0 : Byte) ++ [0xFF, 0xFF, 0xFF]
    | some r =>
      [r.state.code] ++ bytesOf 4 r.serial.toNat ++
        [tagCode r.tag, if r.kind = .reference then 1 else 0, u8 r.retests, contactCode r.contact] ++
        result r.measure ++ result r.verify ++
        (match r.deviation with
          | none => [0, 0, 0, 0]
          | some d => (if d.saturated then 3 else 1) :: signedBytesOf 3 d.ppm) ++
        (match r.grade with
          | .ungraded => [0xFF, 0xFF]
          | .byClass c => [u8 c.code.val, 0xFF]
          | .byEntry e => [0xFF, u8 e.val]) ++
        [match r.state with
          | .graded .sweep => 0
          | .graded (.bin b) => u8 (b.val + 1)
          | _ => 0xFF]
   let slot := fun x : Option Outstanding =>
    match x with
    | none => ([0, 0, 0, 0] : List Byte)
    | some e => [e.seq, u8 e.pocket.val] ++ bytesOf 2 (min 2550 e.age)
   ∀ s : State,
    (∀ p, pocketPayload s p =
      [u8 p.val, u8 s.ptk.loadPointer,
        u8 ((s.ptk.loadPointer + s.ptk.ring.pockets - p.val) % s.ptk.ring.pockets)] ++ record (s.record p)) ∧
    deviceCountsPayload s =
      [s.ptk.opState.code, u8 s.ptk.ring.pockets, u8 s.ptk.ring.contact, u8 s.ptk.ring.measure, u8 s.ptk.ring.verify,
        u8 s.ptk.ring.decision] ++ s.ptk.ring.gates.toList.map u8 ++
        [u8 s.ptk.ring.sweep, u8 s.ptk.ring.pulseWidth, u8 s.ptk.loadPointer] ++ bytesOf 4 s.ptk.indexCount.toNat ++
        bytesOf 4 s.ptk.serial.toNat ++ bytesOf 2 s.ptk.conflicts.toNat ++ bytesOf 2 s.ptk.untracked.toNat ++
        [u8 (occupiedCount s)] ∧
    (∀ id,
      let m := s.port id
      meterPayload s id =
        [match id with | .a => 1 | .b => 2, m.state.code, m.seq, u8 m.timeoutMs, u8 (m.timer.getD 0),
          u8 m.entries.length] ++ slot m.entries[0]? ++ slot m.entries[1]? ++ slot m.entries[2]? ++ slot m.entries[3]? ++
          [flag m.held.isSome] ++ signedBytesOf 2 (m.held.getD 0) ++ bytesOf 2 m.counts.sent.toNat ++
          bytesOf 2 m.counts.taken.toNat ++ bytesOf 2 m.counts.crcErrors.toNat ++ bytesOf 2 m.counts.formatErrors.toNat ++
          bytesOf 2 m.counts.stray.toNat ++ bytesOf 2 m.counts.lost.toNat ++ bytesOf 2 m.counts.skipped.toNat ++
          bytesOf 2 m.counts.expired.toNat ++ bytesOf 2 m.counts.timeouts.toNat) ∧
    (∀ k : Bank,
      lotCountsPayload k =
        [k.state.code, u8 k.onRing] ++ bytesOf 4 k.counts.loaded.toNat ++
          k.counts.exits.toList.flatMap (fun c => bytesOf 4 c.toNat) ++ bytesOf 4 k.counts.cleared.toNat ++
          bytesOf 4 k.counts.good.toNat ++ bytesOf 4 k.counts.referenceExits.toNat ++
          k.counts.classes.toList.flatMap (fun c => bytesOf 4 c.toNat) ++ bytesOf 4 k.counts.retestRevs.toNat ++
          bytesOf 4 k.counts.verdictsExpired.toNat) ∧
    (∀ b,
      let r := s.bin b
      binPayload s b =
        [u8 (b.val + 1), r.state.code] ++ bytesOf 2 r.capacity ++ [u8 r.margin] ++ bytesOf 3 r.filled ++ [u8 r.reserved] ++
          bytesOf 2 r.boxSeq.toNat ++ [flag (s.pulse (lineOf b)).isSome]) ∧
    (let d := s.drm
     driftPayload d =
      [u8 d.config.step, u8 d.config.period] ++ bytesOf 2 d.config.hysteresis ++ bytesOf 2 d.config.alarmLimit ++
        bytesOf 2 d.config.interval ++ signedBytesOf 2 d.target ++ signedBytesOf 2 d.applied ++ [u8 d.periodCount] ++
        sample d.lastSample ++ [flag d.latch] ++ bytesOf 2 d.overdueCount.toNat ++ [flag d.overdueFlag] ++
        bytesOf 2 d.samples.toNat ++ bytesOf 2 d.badRefs.toNat) ∧
    holdPayload s =
      (match s.svl.hold with
        | [] => [0]
        | e :: _ =>
          [u8 s.svl.hold.length, u8 e.pocket.val] ++ bytesOf 4 e.serial.toNat ++
            [u8 e.cls.code.val,
              u8 ((s.ptk.loadPointer + s.ptk.ring.pockets - e.pocket.val) % s.ptk.ring.pockets)] ++
            record (s.record e.pocket))) ∧
  ∀ s : State, takesRequest s = true →
    (∀ p : PocketNo, p.val < s.ptk.ring.pockets →
      exec (.readPocket (bodyOf [BitVec.ofNat 8 p.val])) s = .next (s.answer 0x14 ⟨.ok, pocketPayload s p⟩) ∧
        (pocketPayload s p).length = 33) ∧
    (exec (.readDeviceCounts (bodyOf [])) s = .next (s.answer 0x15 ⟨.ok, deviceCountsPayload s⟩) ∧
      (deviceCountsPayload s).length = 37) ∧
    (∀ id, exec (.readMeter (bodyOf [portCode id])) s = .next (s.answer 0x22 ⟨.ok, meterPayload s id⟩) ∧
      (meterPayload s id).length = 43) ∧
    (∀ (k : BankId) (e : Fin 16),
      exec (.readBank (bodyOf [tagCode (some k), 0, BitVec.ofNat 8 e.val])) s = .next
        (s.answer 0x35 ⟨.ok, (s.bank k).state.code :: lotBytes (s.bank k).lot⟩) ∧
      exec (.readBank (bodyOf [tagCode (some k), 1, BitVec.ofNat 8 e.val])) s = .next
        (s.answer 0x35
          ⟨.ok, (s.bank k).state.code :: BitVec.ofNat 8 e.val :: entryBytes (s.bank k).entries[e]⟩) ∧
      exec (.readBank (bodyOf [tagCode (some k), 2, BitVec.ofNat 8 e.val])) s = .next
        (s.answer 0x35 ⟨.ok, (s.bank k).state.code :: (s.bank k).actions.toList.flatMap actionBytes⟩)) ∧
    (∀ k, exec (.readLotCounts (bodyOf [tagCode (some k)])) s = .next
        (s.answer 0x36 ⟨.ok, lotCountsPayload (s.bank k)⟩) ∧ (lotCountsPayload (s.bank k)).length = 126) ∧
    (∀ b : SortBin, exec (.readBin (bodyOf [BitVec.ofNat 8 (b.val + 1)])) s = .next
        (s.answer 0x41 ⟨.ok, binPayload s b⟩) ∧ (binPayload s b).length = 12) ∧
    (exec (.readDrift (bodyOf [])) s = .next (s.answer 0x51 ⟨.ok, driftPayload s.drm⟩) ∧
      (driftPayload s.drm).length = 25) ∧
    (exec (.readHold (bodyOf [])) s = .next (s.answer 0x03 ⟨.ok, holdPayload s⟩) ∧
      (holdPayload s).length = if s.svl.hold = [] then 1 else 38) ∧
    (∀ n : Byte, s.ptk.ring.pockets ≤ n.toNat →
      exec (.readPocket (bodyOf [n])) s = .next (s.answer 0x14 ⟨.badValue, []⟩)) ∧
    (∀ x : Byte, x ≠ 1 → x ≠ 2 →
      exec (.readMeter (bodyOf [x])) s = .next (s.answer 0x22 ⟨.badValue, []⟩) ∧
        exec (.readLotCounts (bodyOf [x])) s = .next (s.answer 0x36 ⟨.badValue, []⟩)) ∧
    (∀ x y z : Byte, (x ≠ 1 ∧ x ≠ 2) ∨ 2 < y.toNat ∨ 15 < z.toNat →
      exec (.readBank (bodyOf [x, y, z])) s = .next (s.answer 0x35 ⟨.badValue, []⟩)) ∧
    (∀ n : Byte, n = 0 ∨ 15 < n.toNat →
      exec (.readBin (bodyOf [n])) s = .next (s.answer 0x41 ⟨.badValue, []⟩)) ∧
    exec (.identify (bodyOf [])) s = .next
      (s.answer 0x01
        ⟨.ok, [0x0A, 0xB5, 0x00, 0x41, 0x01, if s.ttp.mportsTwo then 2 else 1, if s.ttp.gpolHigh then 1 else 0,
          if s.ttp.restartCause = .powerOn then 0 else 1]⟩) ∧
    exec (.readAttention (bodyOf [])) s = .next
      ({ s with svl := { s.svl with attention := .none } }.answer 0x02 ⟨.ok, [s.svl.attention.byte]⟩)

/-- The layouts of Table 10.10 and the codes they are written with (Tables 2.2, 5.4 and 10.8), spelled out: multi-byte fields
are sent most significant byte first and signed fields in two's complement (R183); a request's payload is taken exactly where
it is the layout of a value in range, and then as that value (R188), the spill bytes of a window entry beyond its count not
being looked at; the configuration bytes that the reads send are those same layouts (R189). The ranges are those that R22,
Table 5.3, R83 and R87, and Table 8.2 list: `Ring.meets`, `Lot.meets`, `WindowEntry.meets` and `DriftConfig.meets`. -/
def Obligations.ConfigurationPayloadsRoundTrip : Prop :=
  let u8 := fun n : Nat => BitVec.ofNat 8 n
  let flag := fun b : Bool => if b then (1 : Byte) else 0
  let binNo := fun b : SortBin => u8 (b.val + 1)
  ((∀ n x i : Nat, (bytesOf n x)[i]? = if i < n then some (u8 (x / 256 ^ (n - 1 - i))) else none) ∧
    ∀ (n : Nat) (x : Int), signedBytesOf n x = bytesOf n (x % 256 ^ n).toNat) ∧
  ([AuxFn.off, .ready, .refReq, .drift, .tripped, .anyFull, .holdWait, .meterFault].map AuxFn.code =
      [0, 1, 2, 3, 4, 5, 6, 7] ∧
    ([PartClass.contactFail, .openPart, .shortPart, .overrange, .underrange, .unstable, .missing, .noMatch,
        .exhausted].map fun c => c.code.val) = [0, 1, 2, 3, 4, 5, 6, 7, 8] ∧
    [ActionKind.bin, .retest, .hold].map ActionKind.code = [0, 1, 2] ∧
    [TripAction.rejectAll, .keepGraded, .recirculate].map TripAction.code = [0, 1, 2] ∧
    [PortId.a, .b].map portCode = [1, 2]) ∧
  ((∀ r : Ring, ringBytes r =
      [u8 r.pockets, u8 r.contact, u8 r.measure, u8 r.verify, u8 r.decision] ++ r.gates.toList.map u8 ++
        [u8 r.sweep, u8 r.pulseWidth]) ∧
    (∀ l : Lot, lotBytes l =
      bytesOf 3 l.nominal ++ signedBytesOf 1 l.exponent ++ signedBytesOf 2 l.tcr ++ signedBytesOf 2 l.tref ++
        bytesOf 2 l.guardBand ++ [flag l.verify] ++ bytesOf 2 l.agreement ++ [u8 l.retestLimit] ++
        signedBytesOf 3 l.refCertified ++ signedBytesOf 2 l.refTcr ++ [binNo l.refBin]) ∧
    (∀ w : WindowEntry, w.spill.length ≤ 3 → entryBytes w =
      [flag w.valid] ++ signedBytesOf 3 w.lower ++ signedBytesOf 3 w.upper ++ [binNo w.primary, u8 w.spill.length] ++
        w.spill.map binNo ++ List.replicate (3 - w.spill.length) 0) ∧
    (∀ a : ClassAction, actionBytes a =
      [a.kind.code, match a.dest with | .sweep => 0 | .bin b => binNo b, flag a.override, flag a.good]) ∧
    (∀ c : DriftConfig, driftConfigBytes c =
      [u8 c.step, u8 c.period] ++ bytesOf 2 c.hysteresis ++ bytesOf 2 c.alarmLimit ++ bytesOf 2 c.interval) ∧
    ∀ c : TripConfig, tripConfigBytes c = [c.action.code, flag c.halt, flag c.onMeterFault]) ∧
  ((∀ r : Ring, r.valid = true ↔ r.meets) ∧ (∀ l : Lot, l.inRange = true ↔ l.meets) ∧
    (∀ w : WindowEntry, w.inRange = true ↔ w.meets) ∧ ∀ c : DriftConfig, c.inRange = true ↔ c.meets) ∧
  (∀ r : Ring, r.meets → ringOf (ringBytes r) = r) ∧
  (∀ p : List Byte, p.length = 22 → ringBytes (ringOf p) = p) ∧
  (∀ (p : List Byte) (l : Lot), lotOf p = some l ↔ l.meets ∧ p = lotBytes l) ∧
  (∀ (p : List Byte) (w : WindowEntry), entryOf p = some w ↔
    w.meets ∧ p.length = 12 ∧ p.take (9 + w.spill.length) = (entryBytes w).take (9 + w.spill.length)) ∧
  (∀ (k b o g : Byte) (a : ClassAction), classActionOf k b o g = some a ↔ actionBytes a = [k, b, o, g]) ∧
  (∀ (p : List Byte) (c : DriftConfig), driftConfigOf p = some c ↔ c.meets ∧ p = driftConfigBytes c) ∧
  (∀ (a h m : Byte) (c : TripConfig), tripConfigOf a h m = some c ↔ tripConfigBytes c = [a, h, m])

/-! ## The meter links -/

/-- A port's trigger at an index arrival (R44, R45, R46): due or not, queued with an entry, SKIPPED on a full list, nothing
on a FAULTED port; and the transmitter that ends a frame takes the next one from its queue (R47). That a frame on an idle
transmitter begins at once and that it ends only at TRIGGER_FRAME_SENT, which does nothing on an idle transmitter, is the
model's choice (DESIGN CHOICE, log entry 10). -/
def Obligations.TriggersAreQueuedAndSent : Prop :=
  (∀ (id : PortId) (s : State),
    s.record (pocketAt s (match id with | .a => s.ptk.ring.measure | .b => s.ptk.ring.verify)) = none →
    triggerAt s id = s) ∧
  (∀ (id : PortId) (s : State) (p : PocketNo) (r : Part) (k : BankId),
    p = pocketAt s (match id with | .a => s.ptk.ring.measure | .b => s.ptk.ring.verify) →
    s.record p = some r → r.tag = some k →
    let due := r.state = .measuring ∧ r.contact ≠ some .fail ∧
      (match id with | .a => r.measure | .b => r.verify) = none ∧ (∀ e ∈ (s.port id).entries, e.pocket ≠ p) ∧
      (s.port id).state ≠ .absent ∧ (id = .b → (s.bank k).lot.verify = true)
    (¬due → triggerAt s id = s) ∧
    (due → (s.port id).state = .faulted → triggerAt s id = s) ∧
    (due → (s.port id).state = .online → (s.port id).entries.length < 4 →
      triggerAt s id = s.modPort id fun m =>
        { m with
          seq := m.seq + 1,
          entries := m.entries ++ [{ seq := m.seq, pocket := p, age := 0 }],
          timer := if m.entries = [] then some m.timeoutMs else m.timer,
          txSending :=
            if m.txSending = none then some { seq := m.seq, pocket := p, exponent := (s.bank k).lot.exponent }
            else m.txSending,
          txQueue :=
            if m.txSending = none then m.txQueue
            else m.txQueue ++ [{ seq := m.seq, pocket := p, exponent := (s.bank k).lot.exponent }],
          counts := { m.counts with sent := satAdd m.counts.sent 1 } }) ∧
    (due → (s.port id).state = .online → 4 ≤ (s.port id).entries.length →
      triggerAt s id =
        (s.modPort id fun m => { m with counts := { m.counts with skipped := satAdd m.counts.skipped 1 } }).setRecord p
          (some (match id with
            | .a => { r with measure := some .skipped }
            | .b => { r with verify := some .skipped })))) ∧
  ∀ (id : PortId) (s : State), s.ttp.held = false →
    ((s.port id).txSending = none → exec (.triggerFrameSent id) s = .next s) ∧
    ((s.port id).txSending ≠ none →
      exec (.triggerFrameSent id) s = .next
        (s.modPort id fun m => { m with txSending := m.txQueue.head?, txQueue := m.txQueue.tail }))

/-- The receiver (R48, R49): nothing on an ABSENT port, hunting, collecting, and the thirteenth byte's three checks, for a byte
in its ten bit times on the line with its stop bit at either level (R48, R184); a whole frame, whatever its bytes and wherever
the receiver stands, is the arrival of its bytes one after another, so that a wrong CRC, another kind and a receiver that is
collecting are those of the byte that completes a frame (DESIGN CHOICE, log entry 9); and a good RESULT frame at a hunting
receiver. A taken answer may be followed at once by an expiry (R57). -/
def Obligations.ReceiverFramesAndChecks : Prop :=
  (∀ (id : PortId) (b : Byte) (stop : Bool) (s : State), s.ttp.held = false →
    let m := s.port id
    let bs := m.rx ++ [b]
    (m.state = .absent → exec (.meterByteReceived id (charLevels b stop)) s = .next s) ∧
    (m.state ≠ .absent → m.rx = [] → b ≠ 0xA5 → exec (.meterByteReceived id (charLevels b stop)) s = .next s) ∧
    (m.state ≠ .absent → m.rx = [] → b = 0xA5 →
      exec (.meterByteReceived id (charLevels b stop)) s = .next (s.modPort id fun m => { m with rx := [0xA5] })) ∧
    (m.state ≠ .absent → m.rx ≠ [] → bs.length < 13 →
      exec (.meterByteReceived id (charLevels b stop)) s = .next (s.modPort id fun m => { m with rx := m.rx ++ [b] })) ∧
    (m.state ≠ .absent → bs.length = 13 →
      (bytesOf 2 (crc16 ((bs.drop 1).take 10)).toNat ≠ bs.drop 11 →
        exec (.meterByteReceived id (charLevels b stop)) s = .next
          (s.modPort id fun m =>
            { m with
              rx := bs.tail.dropWhile fun x => x != 0xA5,
              counts := { m.counts with crcErrors := satAdd m.counts.crcErrors 1 } })) ∧
      (bytesOf 2 (crc16 ((bs.drop 1).take 10)).toNat = bs.drop 11 →
        (bs[1]? ≠ some 0x52 →
          exec (.meterByteReceived id (charLevels b stop)) s = .next
            (s.modPort id fun m =>
              { m with rx := [], counts := { m.counts with formatErrors := satAdd m.counts.formatErrors 1 } })) ∧
        (bs[1]? = some 0x52 → m.state = .faulted →
          exec (.meterByteReceived id (charLevels b stop)) s = .next
            (s.modPort id fun m =>
              { m with rx := [], counts := { m.counts with stray := satAdd m.counts.stray 1 } })) ∧
        (bs[1]? = some 0x52 → m.state = .online → ∃ f, resultFrameOf bs = some f ∧
          exec (.meterByteReceived id (charLevels b stop)) s = .next
            (settleTimers s (matchFrame (s.modPort id fun m => { m with rx := [] }) id f)))))) ∧
  (∀ (id : PortId) (s : State), exec (.frameArrival id []) s = .next s) ∧
  (∀ (id : PortId) (b : Byte) (stop : Bool) (frame : List Byte) (s : State), ∃ u,
    exec (.meterByteReceived id (charLevels b stop)) s = .next u ∧
      exec (.frameArrival id (b :: frame)) s = exec (.frameArrival id frame) u) ∧
  ∀ (id : PortId) (frame : List Byte) (f : ResultFrame) (s : State), s.ttp.held = false → (s.port id).rx = [] →
    frame.length = 13 → frame.head? = some 0xA5 → resultFrameOf frame = some f → f.kind = 0x52 →
    bytesOf 2 (crc16 ((frame.drop 1).take 10)).toNat = frame.drop 11 →
    ((s.port id).state = .online → exec (.frameArrival id frame) s = .next (settleTimers s (matchFrame s id f))) ∧
    ((s.port id).state = .faulted →
      exec (.frameArrival id frame) s = .next
        (s.modPort id fun m => { m with counts := { m.counts with stray := satAdd m.counts.stray 1 } })) ∧
    ((s.port id).state = .absent → exec (.frameArrival id frame) s = .next s)

/-- Matching by the sequence field (R50, R51): a frame that matches no entry is only counted stray; the entries older than
the matched one are LOST, the matched entry is taken and its pocket's station result written, and the younger entries stay.
The reference temperature that an answer without one may take is that of the lot of the pocket's bank as it stands (R53). Port
A's station is MEASURE and port B's VERIFY (R40). -/
def Obligations.MatchedAnswerIsTaken : Prop :=
  (∀ (s : State) (p : PocketNo) (r : Part) (k : BankId), s.record p = some r → r.tag = some k →
    trefOf s p = (s.bank k).lot.tref) ∧
  (∀ (r : Part) (x : StationResult),
    r.setResult .a x = { r with measure := some x } ∧ r.setResult .b x = { r with verify := some x } ∧
      r.result .a = r.measure ∧ r.result .b = r.verify) ∧
  ∀ (id : PortId) (f : ResultFrame) (s : State),
    ((∀ e ∈ (s.port id).entries, e.seq ≠ f.seq) →
      matchFrame s id f =
        s.modPort id fun m => { m with counts := { m.counts with stray := satAdd m.counts.stray 1 } }) ∧
    ∀ (older : List Outstanding) (e : Outstanding) (younger : List Outstanding),
      (s.port id).entries = older ++ e :: younger → (∀ x ∈ older, x.seq ≠ f.seq) → e.seq = f.seq →
      ((s.port id).entries.map Outstanding.pocket).Nodup →
      ∃ t, matchFrame s id f = t ∧
        t = { s with ptk := { s.ptk with records := t.ptk.records }, portA := t.portA, portB := t.portB } ∧
        (∀ other, other ≠ id → t.port other = s.port other) ∧
        t.port id =
          { s.port id with
            entries := younger,
            timer := if younger = [] then none else some (s.port id).timeoutMs,
            txQueue :=
              (s.port id).txQueue.filter fun g => younger.any fun x => x.seq == g.seq && x.pocket == g.pocket,
            held := (storedResult (s.port id).held (trefOf s e.pocket) e.pocket f).2,
            counts :=
              { (s.port id).counts with
                lost := satAdd (s.port id).counts.lost older.length,
                taken := satAdd (s.port id).counts.taken 1 } } ∧
        (∀ x ∈ older, t.record x.pocket = (s.record x.pocket).map fun r => r.setResult id .lost) ∧
        (t.record e.pocket =
          (s.record e.pocket).map fun r =>
            r.setResult id (storedResult (s.port id).held (trefOf s e.pocket) e.pocket f).1) ∧
        ∀ q, q ∉ (older ++ [e]).map Outstanding.pocket → t.record q = s.record q

/-- The form of a taken answer, by the first condition that applies (R52), and its temperature (R53). -/
def Obligations.StoredResultAndTemperature : Prop :=
  ∀ (held : Option Int) (tref : Int) (p : PocketNo) (f : ResultFrame),
    storedResult held tref p f =
      if f.pocket.toNat ≠ p.val then (.invalid, held)
      else if 3 < f.status.toNat then (.invalid, held)
      else if f.status.toNat = 0 ∧
          ¬(1000000 ≤ f.mantissa ∧ f.mantissa ≤ 9999999 ∧ -3 ≤ f.exponent ∧ f.exponent ≤ 6) then (.invalid, held)
      else if f.status.toNat = 1 then (.openCircuit, held)
      else if f.status.toNat = 2 then (.short, held)
      else if f.status.toNat = 3 then (.overload, held)
      else if f.temperature = -32768 then (.ok f.mantissa f.exponent (held.getD tref), held)
      else if f.temperature < -4000 then (.ok f.mantissa f.exponent (-4000), some (-4000))
      else if 15000 < f.temperature then (.ok f.mantissa f.exponent 15000, some 15000)
      else (.ok f.mantissa f.exponent f.temperature, some f.temperature)

/-- The expiry of a port's timeout timer (R58): the port FAULTED, its entries LOST, the counters, METER_FAULT, and the trip
trigger where the setting is on. As a command it acts exactly where the age of the oldest entry has reached the value the timer
took (R57; log entry 11). An event that makes another entry the oldest is followed at once by the expiry, where that entry is
already past the timeout (R57, `settleTimers`); where both ports' timers are so moved on, which goes first is a free value (log
entry 5). -/
def Obligations.MeterTimeoutFaultsThePort : Prop :=
  let due := fun (s : State) (id : PortId) =>
    ∃ v e, (s.port id).timer = some v ∧ (s.port id).entries.head? = some e ∧ 10 * v ≤ e.age
  (∀ (id : PortId) (s : State), s.ttp.held = false →
    (¬due s id → exec (.meterTimeout id) s = .next s) ∧
    (due s id → exec (.meterTimeout id) s = .next (settleTimers s (meterFault s id)))) ∧
  (∀ (id : PortId) (s : State), ∃ s1 : State,
    meterFault s id =
      (if s.trc.config.onMeterFault then tripTrigger s1 (match id with | .a => .meterA | .b => .meterB) else s1) ∧
    s1 =
      { s with
        ptk := { s.ptk with records := s1.ptk.records }, portA := s1.portA, portB := s1.portB,
        svl := { s.svl with attention := s.svl.attention.raise .meterFault } } ∧
    s1.port id =
      { s.port id with
        state := .faulted, entries := [], timer := none, txQueue := [],
        counts :=
          { (s.port id).counts with
            lost := satAdd (s.port id).counts.lost (s.port id).entries.length,
            timeouts := satAdd (s.port id).counts.timeouts 1 } } ∧
    (∀ other, other ≠ id → s1.port other = s.port other) ∧
    ∀ q, s1.record q =
      if q ∈ (s.port id).entries.map Outstanding.pocket then (s.record q).map fun r => r.setResult id .lost
      else s.record q) ∧
  ∀ s t : State,
    let late := fun (u : State) (id : PortId) => due u id ∧ (u.port id).entries.head? ≠ (s.port id).entries.head?
    let first := fun id other : PortId =>
      (late (meterFault t id) other → settleTimers s t = meterFault (meterFault t id) other) ∧
        (¬late (meterFault t id) other → settleTimers s t = meterFault t id)
    (¬late t .a → ¬late t .b → settleTimers s t = t) ∧
    (∀ id other, other ≠ id → late t id → ¬late t other → first id other) ∧
    (late t .a → late t .b → first .a .b ∨ first .b .a)

/-- SET_METER and RESTORE_METER (R59, R60). -/
def Obligations.MeterRequestsSetAndRestore : Prop :=
  ∀ s : State, takesRequest s = true →
    (∀ x ms : Byte, x ≠ 1 → x ≠ 2 →
      exec (.setMeter (bodyOf [x, ms])) s = .next (s.answer 0x20 ⟨.badValue, []⟩) ∧
        exec (.restoreMeter (bodyOf [x])) s = .next (s.answer 0x21 ⟨.badValue, []⟩)) ∧
    (∀ id, exec (.setMeter (bodyOf [portCode id, 0])) s = .next (s.answer 0x20 ⟨.badValue, []⟩)) ∧
    (∀ (id : PortId) (ms : Byte), ms ≠ 0 →
      ((s.port id).state = .absent →
        exec (.setMeter (bodyOf [portCode id, ms])) s = .next (s.answer 0x20 ⟨.wrongState, []⟩)) ∧
      ((s.port id).state ≠ .absent →
        exec (.setMeter (bodyOf [portCode id, ms])) s = .next
          ((s.modPort id fun m => { m with timeoutMs := ms.toNat }).answer 0x20 ⟨.ok, []⟩))) ∧
    ∀ id,
      ((s.port id).state = .faulted →
        exec (.restoreMeter (bodyOf [portCode id])) s = .next
          ((s.modPort id fun m => { m with state := .online }).answer 0x21 ⟨.ok, []⟩)) ∧
      ((s.port id).state ≠ .faulted →
        exec (.restoreMeter (bodyOf [portCode id])) s = .next (s.answer 0x21 ⟨.wrongState, []⟩))

/-- The relation of a port's counters to its list (R62) is kept by every command that does not make a CLEAR_TRACK request
(opcode 0x13), as long as no counter has saturated; a counter stays at 65,535 once it has reached it (R64). -/
def Obligations.MeterCountersBalance : Prop :=
  (∀ (n : Count16) (k : Nat), (satAdd n k).toNat = min 65535 (n.toNat + k)) ∧
  ∀ (c : Instr) (id : PortId) (s t : State), asks 0x13 c = false → exec c s = .next t →
    (t.port id).Unsaturated → (s.port id).Balances → (t.port id).Balances

/-! ## The deviation arithmetic -/

/-- Rounding (R66): the nearest integer to the exact quotient, a tie going away from zero, by magnitude with the sign of the
dividend, and 0 for 0. -/
def Obligations.RoundingIsNearestTiesAway : Prop :=
  ∀ (n : Int) (d : Nat), 0 < d →
    2 * (n - roundDiv n d * d).natAbs ≤ d ∧
    (2 * (n - roundDiv n d * d).natAbs = d → n.natAbs < (roundDiv n d * d).natAbs) ∧
    roundDiv (-n) d = -roundDiv n d ∧ roundDiv 0 d = 0

/-- Stage 1 on legal inputs (R67, R68): the range verdicts by the exponent difference, the numerator and denominator of
Table 4.3 with their bounds, the ceiling, and the range of a raw deviation. -/
def Obligations.StageOneVerdictsAndRange : Prop :=
  ∀ (m : Nat) (e : Int) (lot : Lot), lot.meets → 1000000 ≤ m → m ≤ 9999999 → -3 ≤ e → e ≤ 6 →
    (2 ≤ e - lot.exponent → stage1 m e lot = .over) ∧
    (e - lot.exponent ≤ -2 → stage1 m e lot = .under) ∧
    (-1 ≤ e - lot.exponent → e - lot.exponent ≤ 1 →
      ∃ (num : Int) (den : Nat),
        (e - lot.exponent = 1 → num = m * 10 - lot.nominal ∧ den = lot.nominal) ∧
        (e - lot.exponent = 0 → num = m - lot.nominal ∧ den = lot.nominal) ∧
        (e - lot.exponent = -1 → num = m - 10 * lot.nominal ∧ den = 10 * lot.nominal) ∧
        num.natAbs ≤ 98999990 ∧ 1000000 ≤ den ∧ den ≤ 99999990 ∧
        stage1 m e lot =
          (if 999999 < roundDiv (num * 1000000) den then .over else .value (roundDiv (num * 1000000) den)) ∧
        -990000 ≤ roundDiv (num * 1000000) den ∧
        (e - lot.exponent = 0 → -900000 ≤ roundDiv (num * 1000000) den))

/-- Stages 4 and 5 (R71, R72, R73): the clamp with its flag, agreement against the limit, the mean within the record's range;
and when each station's deviation is formed and stage 5 runs (R69, R70, Table 4.5). -/
def Obligations.ClampAgreementAndMean : Prop :=
  (∀ v : Int,
    clampDev v =
      if 999999 < v then { ppm := 999999, saturated := true }
      else if v < -999999 then { ppm := -999999, saturated := true }
      else { ppm := v, saturated := false }) ∧
  (∀ (lot : Lot) (o : OffsetPair) (m v : Reading),
    let station := fun (r : Reading) (d : Deviation) => ∃ raw, stage1 r.mantissa r.exponent lot = .value raw ∧
      d = clampDev (raw - roundDiv (lot.tcr * (r.temperature - lot.tref)) 100 - o.applied)
    (stage1 m.mantissa m.exponent lot = .over → ∀ w, productOutcome lot o m w = .overrange none) ∧
    (stage1 m.mantissa m.exponent lot = .under → ∀ w, productOutcome lot o m w = .underrange none) ∧
    ∀ d2, station m d2 →
      productOutcome lot o m none = .value d2 ∧
      (stage1 v.mantissa v.exponent lot = .over → productOutcome lot o m (some v) = .overrange (some d2)) ∧
      (stage1 v.mantissa v.exponent lot = .under → productOutcome lot o m (some v) = .underrange (some d2)) ∧
      ∀ d3, station v d3 → productOutcome lot o m (some v) = stage5 d2 d3 lot.agreement) ∧
  ∀ (d2 d3 : Deviation) (limit : Nat), d2.ppm.natAbs ≤ 999999 → d3.ppm.natAbs ≤ 999999 →
    (d2.ppm - d3.ppm).natAbs ≤ 1999998 ∧
    (limit < (d2.ppm - d3.ppm).natAbs →
      stage5 d2 d3 limit = .unstable { ppm := d2.ppm, saturated := d2.saturated || d3.saturated }) ∧
    ((d2.ppm - d3.ppm).natAbs ≤ limit →
      stage5 d2 d3 limit =
          .value { ppm := roundDiv (d2.ppm + d3.ppm) 2, saturated := d2.saturated || d3.saturated } ∧
        (roundDiv (d2.ppm + d3.ppm) 2).natAbs ≤ 999999)

/-- The effective guard (R77) and the guarded window test (R78), with the empty window that matches nothing. -/
def Obligations.GuardAndWindowTest : Prop :=
  (∀ (lot : Lot) (o : OffsetPair),
    effectiveGuard lot o = min 10000 (lot.guardBand + (o.target - o.applied).natAbs) ∧
      (o.applied = o.target → lot.guardBand ≤ 5000 → effectiveGuard lot o = lot.guardBand)) ∧
  ∀ (w : WindowEntry) (g : Nat) (d : Int),
    (w.hits g d = true ↔ w.valid = true ∧ w.lower + g ≤ d ∧ d ≤ w.upper - g) ∧
      (w.upper - w.lower < 2 * g → w.hits g d = false)

/-! ## The grade banks and the grading -/

/-- The bank writes (R85 to R89): the bank code, TRIPPED, the bank's state and the request's own conditions, in that order;
an accepted write replaces exactly what it names, with values in the ranges of Table 5.3 (`Lot.meets`) and of R83 and R87
(`WindowEntry.meets`). -/
def Obligations.BankWritesChecksAndEffects : Prop :=
  ∀ s : State, takesRequest s = true →
    (∀ (code : Byte) (rest : List Byte), code ≠ 1 → code ≠ 2 →
      (rest.length = 20 →
        exec (.writeLot (bodyOf (code :: rest))) s = .next (s.answer 0x30 ⟨.badValue, []⟩)) ∧
      (rest.length = 13 →
        exec (.writeEntry (bodyOf (code :: rest))) s = .next (s.answer 0x31 ⟨.badValue, []⟩)) ∧
      (rest.length = 5 →
        exec (.writeClass (bodyOf (code :: rest))) s = .next (s.answer 0x32 ⟨.badValue, []⟩)) ∧
      exec (.copyBank (bodyOf [code])) s = .next (s.answer 0x33 ⟨.badValue, []⟩)) ∧
    (∀ (k : BankId) (rest : List Byte), s.ptk.opState = .tripped ∨ (s.bank k).state ≠ .standby →
      (rest.length = 20 →
        exec (.writeLot (bodyOf (tagCode (some k) :: rest))) s = .next (s.answer 0x30 ⟨.wrongState, []⟩)) ∧
      (rest.length = 13 →
        exec (.writeEntry (bodyOf (tagCode (some k) :: rest))) s = .next (s.answer 0x31 ⟨.wrongState, []⟩)) ∧
      (rest.length = 5 →
        exec (.writeClass (bodyOf (tagCode (some k) :: rest))) s = .next (s.answer 0x32 ⟨.wrongState, []⟩)) ∧
      exec (.copyBank (bodyOf [tagCode (some k)])) s = .next (s.answer 0x33 ⟨.wrongState, []⟩)) ∧
    ∀ k : BankId, s.ptk.opState ≠ .tripped → (s.bank k).state = .standby →
      (∀ rest : List Byte, rest.length = 20 →
        (lotOf rest = none →
          exec (.writeLot (bodyOf (tagCode (some k) :: rest))) s = .next (s.answer 0x30 ⟨.badValue, []⟩)) ∧
        (∀ l, lotOf rest = some l → l.meets ∧
          exec (.writeLot (bodyOf (tagCode (some k) :: rest))) s = .next
            ((s.modBank k fun b => { b with lot := l }).answer 0x30 ⟨.ok, []⟩))) ∧
      (∀ (n : Byte) (rest : List Byte), rest.length = 12 →
        (15 < n.toNat ∨ entryOf rest = none →
          exec (.writeEntry (bodyOf (tagCode (some k) :: n :: rest))) s = .next
            (s.answer 0x31 ⟨.badValue, []⟩)) ∧
        (∀ (e : Fin 16) (w : WindowEntry), n.toNat = e.val → entryOf rest = some w → w.meets ∧
          exec (.writeEntry (bodyOf (tagCode (some k) :: n :: rest))) s = .next
            ((s.modBank k fun b => { b with entries := b.entries.set e w e.isLt }).answer 0x31 ⟨.ok, []⟩))) ∧
      (∀ c kind bin ovr good : Byte,
        (8 < c.toNat ∨ 2 < kind.toNat ∨ 15 < bin.toNat ∨ 1 < ovr.toNat ∨ 1 < good.toNat →
          exec (.writeClass (bodyOf [tagCode (some k), c, kind, bin, ovr, good])) s = .next
            (s.answer 0x32 ⟨.badValue, []⟩)) ∧
        (∀ (x : Fin 9) (a : ClassAction), c.toNat = x.val → actionBytes a = [kind, bin, ovr, good] →
          exec (.writeClass (bodyOf [tagCode (some k), c, kind, bin, ovr, good])) s = .next
            ((s.modBank k fun b => { b with actions := b.actions.set x a x.isLt }).answer 0x32 ⟨.ok, []⟩))) ∧
      ((s.bank (otherBank k)).state = .standby →
        exec (.copyBank (bodyOf [tagCode (some k)])) s = .next (s.answer 0x33 ⟨.condition, []⟩)) ∧
      ((s.bank (otherBank k)).state ≠ .standby →
        exec (.copyBank (bodyOf [tagCode (some k)])) s = .next
          ((s.modBank k fun b =>
              { b with
                lot := (s.bank (otherBank k)).lot, entries := (s.bank (otherBank k)).entries,
                actions := (s.bank (otherBank k)).actions }).answer 0x33 ⟨.ok, []⟩))

/-- ACTIVATE (R91, R92, R93), and the end of a bank's draining (R94; the command is log entry 7). -/
def Obligations.ActivationAndDraining : Prop :=
  (∀ s : State, takesRequest s = true →
    (∀ code : Byte, code ≠ 1 → code ≠ 2 →
      exec (.activate (bodyOf [code])) s = .next (s.answer 0x34 ⟨.badValue, []⟩)) ∧
    ∀ k : BankId,
      let c := Instr.activate (bodyOf [tagCode (some k)])
      let states := fun t : State => [t.bankA.state.code, t.bankB.state.code]
      let valid1 : Prop := ∃ e : Fin 16, ((s.bank k).entries[e]).valid = true
      let valid2 : Prop := ∀ e : Fin 16, ((s.bank k).entries[e]).valid = true →
        2 * ((s.bank k).lot.guardBand : Int) ≤ ((s.bank k).entries[e]).upper - ((s.bank k).entries[e]).lower
      let valid3 : Prop := (s.bank k).lot.verify = true → s.ttp.mportsTwo = true
      let former := fun b : Bank =>
        if b.state = .active then { b with state := if b.onRing = 0 then .standby else .draining } else b
      (s.ptk.opState = .tripped → exec c s = .next (s.answer 0x34 ⟨.wrongState, []⟩)) ∧
      (s.ptk.opState ≠ .tripped →
        ((s.bank k).state = .active → exec c s = .next (s.answer 0x34 ⟨.ok, states s⟩)) ∧
        ((s.bank k).state = .draining →
          let t := (s.modBank (otherBank k) former).modBank k fun b => { b with state := .active }
          exec c s = .next (t.answer 0x34 ⟨.ok, states t⟩)) ∧
        ((s.bank k).state = .standby →
          (¬valid1 → exec c s = .next (s.answer 0x34 ⟨.invalidSet, [1]⟩)) ∧
          (valid1 → ¬valid2 → exec c s = .next (s.answer 0x34 ⟨.invalidSet, [2]⟩)) ∧
          (valid1 → valid2 → ¬valid3 → exec c s = .next (s.answer 0x34 ⟨.invalidSet, [3]⟩)) ∧
          (valid1 → valid2 → valid3 →
            let t := (s.modBank (otherBank k) former).modBank k fun b =>
              { b with state := .active, counts := .zero }
            exec c s = .next (t.answer 0x34 ⟨.ok, states t⟩))))) ∧
  ∀ (k : BankId) (s : State), s.ttp.held = false →
    ((s.bank k).state = .draining → (s.bank k).onRing = 0 →
      exec (.bankReturnsToStandby k) s = .next ((s.modBank k fun b => { b with state := .standby }).raise .bankFree)) ∧
    ((s.bank k).state ≠ .draining ∨ (s.bank k).onRing ≠ 0 → exec (.bankReturnsToStandby k) s = .next s) ∧
    departure s none = s ∧
    ((s.bank k).state = .draining → (s.bank k).onRing ≤ 1 →
      departure s (some k) =
        (s.modBank k fun b => { b with onRing := 0, state := .standby }).raise .bankFree) ∧
    ((s.bank k).state ≠ .draining ∨ 1 < (s.bank k).onRing →
      departure s (some k) = s.modBank k fun b => { b with onRing := b.onRing - 1 })

/-- The first tests at the decision point (R95, R96; Table 5.6): the pocket's entries on both ports expire, with the timer
that goes on, starts anew or stops and the waiting frames that go with their entries (R47, R55, R57), a record that is not
MEASURING is not graded, recirculation marks a product record, then contact, MEASURE and VERIFY decide in that order, each
result by R96's table; a reference record takes the reference path. -/
def Obligations.DecisionPointTestsInOrder : Prop :=
  ∀ (s : State) (p : PocketNo), p = pocketAt s s.ptk.ring.decision →
    let s1 := expireEntry (expireEntry s .a p) .b p
    (∀ id,
      let m := s.port id
      let left := m.entries.filter fun e => e.pocket != p
      let gone := m.entries.filter fun e => e.pocket == p
      (gone = [] → s1.port id = m) ∧
      (gone ≠ [] → s1.port id =
        { m with
          entries := left,
          timer := if left = [] then none else if left.head? = m.entries.head? then m.timer else some m.timeoutMs,
          txQueue := m.txQueue.filter fun f => left.any fun e => e.seq == f.seq && e.pocket == f.pocket,
          counts := { m.counts with expired := satAdd m.counts.expired gone.length } })) ∧
    s1 = { s with portA := s1.portA, portB := s1.portB } ∧
    (s.record p = none → gradeAtDecision s = s1) ∧
    ∀ r, s.record p = some r →
      (r.state ≠ .measuring → gradeAtDecision s = s1) ∧
      (r.state = .measuring → ∀ k, r.tag = some k →
        (r.kind = .reference → gradeAtDecision s = gradeReference s1 p k r) ∧
        (r.kind = .product →
          (s.ptk.opState = .tripped → s.trc.config.action = .recirculate →
            gradeAtDecision s = recircPocket s1 p) ∧
          (s.ptk.opState ≠ .tripped ∨ s.trc.config.action ≠ .recirculate →
            let mapped := fun (x : Option StationResult) (c : PartClass) =>
              ((x = none ∨ x = some .skipped ∨ x = some .lost ∨ x = some .invalid) ∧ c = .missing) ∨
                (x = some .openCircuit ∧ c = .openPart) ∨ (x = some .short ∧ c = .shortPart) ∨
                (x = some .overload ∧ c = .overrange)
            (r.contact = some .fail → gradeAtDecision s = raiseClass s1 p k r .contactFail none) ∧
            (r.contact ≠ some .fail →
              (∀ c, mapped r.measure c → gradeAtDecision s = raiseClass s1 p k r c none) ∧
              (∀ m e t, r.measure = some (.ok m e t) →
                ((s.bank k).lot.verify = false →
                  gradeAtDecision s =
                    gradeOutcome s1 p k r
                      (productOutcome (s.bank k).lot ⟨s.drm.applied, s.drm.target⟩ ⟨m, e, t⟩ none)) ∧
                ((s.bank k).lot.verify = true →
                  (∀ c, mapped r.verify c → gradeAtDecision s = raiseClass s1 p k r c none) ∧
                  (∀ m' e' t', r.verify = some (.ok m' e' t') →
                    gradeAtDecision s =
                      gradeOutcome s1 p k r
                        (productOutcome (s.bank k).lot ⟨s.drm.applied, s.drm.target⟩ ⟨m, e, t⟩
                          (some ⟨m', e', t'⟩)))))))))

/-- The window test (R97, R98): the first valid entry, by number, whose guarded window holds the deviation is the matched
entry; its primary bin and then its spill bins are asked without override, and the first that grants takes the part. -/
def Obligations.FirstMatchedEntryTakesTheFirstBin : Prop :=
  ∀ (s : State) (p : PocketNo) (k : BankId) (r : Part) (d : Deviation), s.record p = some r →
    let guard := effectiveGuard (s.bank k).lot ⟨s.drm.applied, s.drm.target⟩
    let hit := fun e : Fin 16 => ((s.bank k).entries[e]).hits guard d.ppm
    (∀ o, gradeOutcome s p k r (.overrange o) = raiseClass s p k r .overrange o) ∧
    (∀ o, gradeOutcome s p k r (.underrange o) = raiseClass s p k r .underrange o) ∧
    gradeOutcome s p k r (.unstable d) = raiseClass s p k r .unstable (some d) ∧
    ((∀ e, hit e = false) → gradeOutcome s p k r (.value d) = raiseClass s p k r .noMatch (some d)) ∧
    ∀ e : Fin 16, hit e = true → (∀ f : Fin 16, f < e → hit f = false) →
      let bins := ((s.bank k).entries[e]).primary :: ((s.bank k).entries[e]).spill
      ((∀ b ∈ bins, (s.bin b).grants false = false) →
        gradeOutcome s p k r (.value d) = raiseClass s p k r .exhausted (some d)) ∧
      ∀ (refused : List SortBin) (b : SortBin) (rest : List SortBin), bins = refused ++ b :: rest →
        (∀ x ∈ refused, (s.bin x).grants false = false) → (s.bin b).grants false = true →
        gradeOutcome s p k r (.value d) =
          (grant s b).setRecord p
            (some { r with state := .graded (.bin b), deviation := some d, grade := .byEntry e })

/-- A raised class is counted and written, and its action runs (R99 to R102): BIN asks for its bin and falls back to bin 0;
RETEST below the limit sends the part round; HOLD with room holds it; RETEST at the limit and HOLD without room act as BIN. -/
def Obligations.ClassActionsRun : Prop :=
  ∀ (s : State) (p : PocketNo) (k : BankId) (r : Part) (c : PartClass) (d : Option Deviation),
    s.record p = some r →
    let a := (s.bank k).actions[c.code]
    let written := { r with deviation := d, grade := .byClass c }
    let s1 := s.modBank k fun b =>
      { b with
        counts :=
          { b.counts with
            classes := b.counts.classes.set c.code (b.counts.classes[c.code] + 1) c.code.isLt } }
    let asBin :=
      match a.dest with
      | .sweep => s1.setRecord p (some { written with state := .graded .sweep })
      | .bin x =>
        if (s.bin x).grants a.override then
          (grant s1 x).setRecord p (some { written with state := .graded (.bin x) })
        else s1.setRecord p (some { written with state := .graded .sweep })
    (a.kind = .bin → raiseClass s p k r c d = asBin) ∧
    (a.kind = .retest → r.retests < (s.bank k).lot.retestLimit →
      raiseClass s p k r c d =
        s1.setRecord p (some { written with retests := r.retests + 1, state := .retest })) ∧
    (a.kind = .retest → (s.bank k).lot.retestLimit ≤ r.retests → raiseClass s p k r c d = asBin) ∧
    (a.kind = .hold → s.svl.hold.length < 4 →
      raiseClass s p k r c d =
        ((s1.setRecord p (some { written with state := .held })).setHold
          (s.svl.hold ++ [{ pocket := p, serial := r.serial, cls := c }])).raise .holdWaiting) ∧
    (a.kind = .hold → 4 ≤ s.svl.hold.length → raiseClass s p k r c d = asBin)

/-- The reference path (R75, R76, R103): the MEASURE reading alone forms the reference deviation and the drift sample; the
part is GRADED with the reference bin, asked with override, or with bin 0; then DRM takes the sample or a bad reference. -/
def Obligations.ReferencePathBinsThenReports : Prop :=
  ∀ (s : State) (p : PocketNo) (k : BankId) (r : Part), s.record p = some r →
    let lot := (s.bank k).lot
    let binned := fun d : Option Deviation =>
      if (s.bin lot.refBin).grants true then
        (grant s lot.refBin).setRecord p (some { r with state := .graded (.bin lot.refBin), deviation := d })
      else s.setRecord p (some { r with state := .graded .sweep, deviation := d })
    ((∀ m e t, r.measure ≠ some (.ok m e t)) → gradeReference s p k r = badReference (binned none)) ∧
    ∀ m e t, r.measure = some (.ok m e t) →
      (stage1 m e lot = .over ∨ stage1 m e lot = .under →
        gradeReference s p k r = badReference (binned none)) ∧
      ∀ raw, stage1 m e lot = .value raw →
        let corrected := raw - roundDiv (lot.refTcr * (t - lot.tref)) 100
        gradeReference s p k r =
          sampleArrival (binned (some (clampDev corrected))) (corrected - lot.refCertified)

/-! ## The bins and the gates -/

/-- Reservations, fires and releases (R111, R112, R114, R115, R119): what is granted, when an OPEN bin becomes FULL, and how
filled and reserved move; a DRAINING bin left with nothing reserved and no pulse becomes EXCHANGE. -/
def Obligations.ReservationFireAndRelease : Prop :=
  ∀ (s : State) (b : SortBin),
    let r := s.bin b
    ((lineOf b).val = b.val + 1 ∧ pulseRunning s b = (s.pulse (lineOf b)).isSome) ∧
    (∀ o, r.grants o = true → reserve s b o = some (grant s b)) ∧
    (∀ o, r.grants o = true ↔
      ((r.state = .opened ∧ r.filled + r.reserved < r.capacity + (if o then r.margin else 0)) ∨
        (r.state = .full ∧ o = true ∧ r.filled + r.reserved < r.capacity + r.margin))) ∧
    (∀ o, (r.grants o = false → reserve s b o = none) ∧
      (r.grants o = true →
        (r.state = .opened → r.filled + r.reserved + 1 = r.capacity →
          reserve s b o =
            some ((s.setBin b { r with reserved := r.reserved + 1, state := .full }).raise .binFull)) ∧
        (r.state ≠ .opened ∨ r.filled + r.reserved + 1 ≠ r.capacity →
          reserve s b o = some (s.setBin b { r with reserved := r.reserved + 1 })))) ∧
    (let drained := r.state = .draining ∧ r.reserved - 1 = 0 ∧ pulseRunning s b = false
     (¬drained →
        release s b = s.setBin b { r with reserved := r.reserved - 1 } ∧
        fireReport s b = s.setBin b { r with filled := r.filled + 1, reserved := r.reserved - 1 }) ∧
     (drained →
        release s b =
          (s.setBin b { r with reserved := r.reserved - 1, state := .exchange }).raise .swapReady ∧
        fireReport s b =
          (s.setBin b { r with filled := r.filled + 1, reserved := r.reserved - 1, state := .exchange }).raise
            .swapReady))

/-- SET_BIN (R122, R124, R125): the checks in order, closing, and the state derived by Table 6.4, with the payload R122
gives each answer. -/
def Obligations.SetBinChecksAndDerives : Prop :=
  ∀ s : State, takesRequest s = true →
    (∀ n c1 c0 m cl : Byte, n = 0 ∨ 15 < n.toNat ∨ (c1 = 0 ∧ c0 = 0) ∨ 1 < cl.toNat →
      exec (.setBin (bodyOf [n, c1, c0, m, cl])) s = .next (s.answer 0x40 ⟨.badValue, [0]⟩)) ∧
    ∀ (b : SortBin) (capacity margin : Nat), 1 ≤ capacity → capacity ≤ 65535 → margin ≤ 255 →
      let r := s.bin b
      let c := fun close : Byte => Instr.setBin
        (bodyOf [BitVec.ofNat 8 (b.val + 1), BitVec.ofNat 8 (capacity / 256), BitVec.ofNat 8 capacity,
          BitVec.ofNat 8 margin, close])
      (r.reserved = 0 → pulseRunning s b = false →
        let t := s.setBin b { r with state := .closed }
        exec (c 1) s = .next (t.answer 0x40 ⟨.ok, binPayload t b⟩)) ∧
      (r.reserved ≠ 0 ∨ pulseRunning s b = true →
        exec (c 1) s = .next (s.answer 0x40 ⟨.condition, binPayload s b⟩)) ∧
      (capacity + margin < r.filled + r.reserved →
        exec (c 0) s = .next (s.answer 0x40 ⟨.badValue, binPayload s b⟩)) ∧
      (r.filled + r.reserved ≤ capacity + margin →
        (r.state = .draining ∨ r.state = .exchange →
          let t := s.setBin b { r with capacity := capacity, margin := margin }
          exec (c 0) s = .next (t.answer 0x40 ⟨.ok, binPayload t b⟩)) ∧
        (r.state = .closed ∨ r.state = .opened ∨ r.state = .full →
          (r.filled + r.reserved < capacity →
            let t := s.setBin b { r with capacity := capacity, margin := margin, state := .opened }
            exec (c 0) s = .next (t.answer 0x40 ⟨.ok, binPayload t b⟩)) ∧
          (capacity ≤ r.filled + r.reserved →
            let u := s.setBin b { r with capacity := capacity, margin := margin, state := .full }
            let t := if r.state = .full then u else u.raise .binFull
            exec (c 0) s = .next (t.answer 0x40 ⟨.ok, binPayload t b⟩))))

/-- The box exchange (R117, R119, R120), the drain test as a command (log entry 7), and the end of a gate pulse (R134,
R135): as a command it acts exactly on a pulse that has run its width (log entry 11). That a refused SWAP_BEGIN carries no
payload is DEDUCED (log entry 21). -/
def Obligations.BoxExchangeDrainAndPulseEnd : Prop :=
  (∀ s : State, takesRequest s = true →
    (∀ n : Byte, n = 0 ∨ 15 < n.toNat →
      exec (.swapBegin (bodyOf [n])) s = .next (s.answer 0x42 ⟨.badValue, []⟩) ∧
        exec (.swapDone (bodyOf [n])) s = .next (s.answer 0x43 ⟨.badValue, []⟩)) ∧
    ∀ b : SortBin,
      let r := s.bin b
      let begin1 := Instr.swapBegin (bodyOf [BitVec.ofNat 8 (b.val + 1)])
      let done := Instr.swapDone (bodyOf [BitVec.ofNat 8 (b.val + 1)])
      (r.state ≠ .opened → r.state ≠ .full → exec begin1 s = .next (s.answer 0x42 ⟨.wrongState, []⟩)) ∧
      (r.state = .opened ∨ r.state = .full →
        (r.reserved = 0 → pulseRunning s b = false →
          exec begin1 s = .next
            (((s.setBin b { r with state := .exchange }).raise .swapReady).answer 0x42 ⟨.ok, [4, 0]⟩)) ∧
        (r.reserved ≠ 0 ∨ pulseRunning s b = true →
          exec begin1 s = .next
            ((s.setBin b { r with state := .draining }).answer 0x42
              ⟨.ok, [3, BitVec.ofNat 8 r.reserved]⟩))) ∧
      (r.state ≠ .exchange → exec done s = .next (s.answer 0x43 ⟨.wrongState, []⟩)) ∧
      (r.state = .exchange →
        exec done s = .next
          ((s.setBin b { r with state := .opened, filled := 0, boxSeq := r.boxSeq + 1 }).answer 0x43
            ⟨.ok, bytesOf 3 r.filled ++ bytesOf 2 (r.boxSeq + 1).toNat⟩))) ∧
  ∀ s : State, s.ttp.held = false →
    let ran := fun l : Line => ∃ p, s.pulse l = some p ∧ p.width ≤ p.elapsed
    (∀ b : SortBin,
      let ready := (s.bin b).state = .draining ∧ (s.bin b).reserved = 0 ∧ pulseRunning s b = false
      (ready →
        exec (.drainComplete b) s = .next ((s.setBin b { s.bin b with state := .exchange }).raise .swapReady)) ∧
      (¬ready → exec (.drainComplete b) s = .next s) ∧
      (ran (lineOf b) → (s.bin b).state = .draining → (s.bin b).reserved = 0 →
        exec (.gatePulseExpiry (lineOf b)) s = .next
          (((s.setPulse (lineOf b) none).setBin b { s.bin b with state := .exchange }).raise .swapReady)) ∧
      (ran (lineOf b) → (s.bin b).state ≠ .draining ∨ (s.bin b).reserved ≠ 0 →
        exec (.gatePulseExpiry (lineOf b)) s = .next (s.setPulse (lineOf b) none))) ∧
    (ran 0 → exec (.gatePulseExpiry 0) s = .next (s.setPulse 0 none)) ∧
    ∀ l, ¬ran l → exec (.gatePulseExpiry l) s = .next s

/-- The gate of a bin fires for the pocket at its offset that is GRADED with that bin, and for no other (R128, R129): a new
pulse, the fire report, the exit report and the emptying with its departure. BANK_FREE rises where the departure ends a bank's
draining (R94), the action complete flag where the ring is left empty in TRIPPED (R162); everything else stays. -/
def Obligations.GateFiresForItsGradedPocket : Prop :=
  ∀ (s : State) (b : SortBin) (p : PocketNo), p = pocketAt s s.ptk.ring.gates[b] →
    ((∀ r, s.record p = some r → r.state ≠ .graded (.bin b)) → fireGate s b = s) ∧
    ∀ (r : Part) (k : BankId), s.record p = some r → r.state = .graded (.bin b) → r.tag = some k →
      1 ≤ (s.bin b).reserved →
      ∃ t, fireGate s b = t ∧
        t.record p = none ∧ (∀ q, q ≠ p → t.record q = s.record q) ∧
        t.pulse (lineOf b) = some { width := s.ptk.ring.pulseWidth, elapsed := 0 } ∧
        (∀ l, l ≠ lineOf b → t.pulse l = s.pulse l) ∧
        t.bin b = { s.bin b with filled := (s.bin b).filled + 1, reserved := (s.bin b).reserved - 1 } ∧
        (∀ c, c ≠ b → t.bin c = s.bin c) ∧
        (t.bank k).counts =
          { (s.bank k).counts with
            exits :=
              (s.bank k).counts.exits.set (lineOf b) ((s.bank k).counts.exits[lineOf b] + 1) (lineOf b).isLt,
            referenceExits := (s.bank k).counts.referenceExits + (if r.kind = .reference then 1 else 0),
            good :=
              (s.bank k).counts.good +
                (if r.kind = .product ∧
                    (match r.grade with
                      | .byEntry _ => true
                      | .byClass c => ((s.bank k).actions[c.code]).good
                      | .ungraded => false) = true then 1
                 else 0) } ∧
        (let freed := (s.bank k).state = .draining ∧ (s.bank k).onRing - 1 = 0
         t.bank k =
          { s.bank k with
            onRing := (s.bank k).onRing - 1, state := if freed then .standby else (s.bank k).state,
            counts := (t.bank k).counts } ∧
         t.svl =
          { s.svl with attention := { s.svl.attention with bankFree := t.svl.attention.bankFree } } ∧
         (t.svl.attention.bankFree = true ↔ s.svl.attention.bankFree = true ∨ freed)) ∧
        t.bank (otherBank k) = s.bank (otherBank k) ∧
        t.ttp = s.ttp ∧ t.portA = s.portA ∧ t.portB = s.portB ∧ t.drm = s.drm ∧
        t.trc = { s.trc with complete := t.trc.complete } ∧
        (t.trc.complete = true ↔
          s.trc.complete = true ∨ (s.ptk.opState = .tripped ∧ ∀ q, q ≠ p → s.record q = none)) ∧
        t.ptk = { s.ptk with records := t.ptk.records }

/-- The pocket at the sweep offset (R130, R131, R132): GRADED with bin 0 and VOID are swept; HELD leaves the hold list and
is swept; GRADED with a sort bin is voided first and then swept; every other pocket passes. The exit is counted in the tagged
bank as R105 says and its departure reported (R6, R94); a record tagged NONE leaves by GATE0 all the same and no bank counts
it (R16). SWAP_READY rises where the voiding completes a drain, BANK_FREE where the departure ends a bank's draining, the
action complete flag where the ring is left empty in TRIPPED (R162); everything else stays. -/
def Obligations.SweepTakesWhatNoGateTook : Prop :=
  ∀ (s : State) (p : PocketNo), p = pocketAt s s.ptk.ring.sweep →
    (s.record p = none → sweepAtW s = s) ∧
    ∀ r, s.record p = some r →
      (r.state = .measuring ∨ r.state = .retest ∨ r.state = .recirc → sweepAtW s = s) ∧
      (r.state ≠ .measuring → r.state ≠ .retest → r.state ≠ .recirc →
        let freed := fun k : BankId => r.tag = some k ∧ (s.bank k).state = .draining ∧ (s.bank k).onRing - 1 = 0
        let drained := fun b : SortBin => r.state = .graded (.bin b) ∧ (s.bin b).state = .draining ∧
          (s.bin b).reserved - 1 = 0 ∧ pulseRunning s b = false
        ∃ t, sweepAtW s = t ∧
          t.record p = none ∧ (∀ q, q ≠ p → t.record q = s.record q) ∧
          t.pulse 0 = some { width := s.ptk.ring.pulseWidth, elapsed := 0 } ∧
          (∀ l, l ≠ 0 → t.pulse l = s.pulse l) ∧
          (r.tag = none → t.bankA = s.bankA ∧ t.bankB = s.bankB) ∧
          (∀ k, r.tag = some k →
            t.bank (otherBank k) = s.bank (otherBank k) ∧
            t.bank k =
              { s.bank k with
                onRing := (s.bank k).onRing - 1,
                state := if (s.bank k).state = .draining ∧ (s.bank k).onRing - 1 = 0 then .standby else (s.bank k).state,
                counts :=
                  { (s.bank k).counts with
                    exits := (s.bank k).counts.exits.set 0 ((s.bank k).counts.exits[0] + 1),
                    verdictsExpired :=
                      if r.kind = .product ∧ r.state = .held then (s.bank k).counts.verdictsExpired + 1
                      else (s.bank k).counts.verdictsExpired,
                    good :=
                      (s.bank k).counts.good +
                        (if r.kind = .product ∧ r.state = .graded .sweep ∧
                            (match r.grade with
                              | .byEntry _ => true
                              | .byClass c => ((s.bank k).actions[c.code]).good
                              | .ungraded => false) = true then 1
                         else 0),
                    referenceExits :=
                      (s.bank k).counts.referenceExits + (if r.kind = .reference then 1 else 0) } }) ∧
          (∀ b, t.bin b =
            { s.bin b with
              reserved := if r.state = .graded (.bin b) then (s.bin b).reserved - 1 else (s.bin b).reserved,
              state :=
                if r.state = .graded (.bin b) ∧ (s.bin b).state = .draining ∧ (s.bin b).reserved - 1 = 0 ∧
                    pulseRunning s b = false then .exchange
                else (s.bin b).state }) ∧
          t.svl = { s.svl with hold := t.svl.hold, attention := t.svl.attention } ∧
          (r.state = .held → t.svl.hold = s.svl.hold.filter fun e => e.pocket != p) ∧
          (r.state ≠ .held → t.svl.hold = s.svl.hold) ∧
          t.svl.attention =
            { s.svl.attention with
              swapReady := t.svl.attention.swapReady, bankFree := t.svl.attention.bankFree } ∧
          (t.svl.attention.swapReady = true ↔ s.svl.attention.swapReady = true ∨ ∃ b, drained b) ∧
          (t.svl.attention.bankFree = true ↔ s.svl.attention.bankFree = true ∨ ∃ k, freed k) ∧
          t.trc = { s.trc with complete := t.trc.complete } ∧
          (t.trc.complete = true ↔
            s.trc.complete = true ∨ (s.ptk.opState = .tripped ∧ ∀ q, q ≠ p → s.record q = none)) ∧
          t.portA = s.portA ∧ t.portB = s.portB ∧ t.drm = s.drm ∧ t.ttp = s.ttp ∧
          t.ptk = { s.ptk with records := t.ptk.records })

/-! ## The drift monitor -/

/-- A sample arrival and a bad reference (R139 to R142): the sample is recorded and counted, the target moves beyond the
hysteresis and within its bound, the overdue accounting restarts, and beyond the alarm limit the latch, DRIFT_ALARM and a
trip trigger with cause DRIFT follow; a bad reference is only counted. -/
def Obligations.SamplesMoveTheTarget : Prop :=
  ∀ (s : State) (v : Int),
    let d : Drm :=
      { s.drm with
        lastSample := some v, samples := satAdd s.drm.samples 1,
        target := if s.drm.config.hysteresis < (v - s.drm.target).natAbs then max (-10000) (min 10000 v) else s.drm.target,
        overdueCount := 0, overdueFlag := false }
    (v.natAbs ≤ s.drm.config.alarmLimit → sampleArrival s v = { s with drm := d }) ∧
    (s.drm.config.alarmLimit < v.natAbs →
      sampleArrival s v = tripTrigger ({ s with drm := { d with latch := true } }.raise .driftAlarm) .drift) ∧
    badReference s = { s with drm := { s.drm with badRefs := satAdd s.drm.badRefs 1 } }

/-- The period count, the slew and the overdue accounting (R143, R146): what an index arrival and a product load do to the
drift monitor; and PERIOD_WRAP and OVERDUE_EPISODE_START as commands: the index arrival that wraps, and the product load that
begins an episode, and nothing where an arrival would not wrap or a load begin one (DESIGN CHOICE, log entry 7). -/
def Obligations.PeriodWrapsAndEpisodes : Prop :=
  ∀ s : State,
    let moved : Int :=
      if s.drm.applied < s.drm.target then min (s.drm.applied + s.drm.config.step) s.drm.target
      else max (s.drm.applied - s.drm.config.step) s.drm.target
    let count := satAdd s.drm.overdueCount 1
    let begins := fun n : Count16 =>
      s.drm.config.interval ≠ 0 ∧ s.drm.config.interval < n.toNat ∧ s.drm.overdueFlag = false
    (∀ slipped,
      (s.drm.config.period ≤ s.drm.periodCount + 1 →
        takeShare slipped s .drift = { s with drm := { s.drm with periodCount := 0, applied := moved } }) ∧
      (s.drm.periodCount + 1 < s.drm.config.period →
        takeShare slipped s .drift = { s with drm := { s.drm with periodCount := s.drm.periodCount + 1 } })) ∧
    (begins count →
      productLoad s =
        { s with drm := { s.drm with overdueCount := count, overdueFlag := true } }.raise .refOverdue) ∧
    (¬begins count → productLoad s = { s with drm := { s.drm with overdueCount := count } }) ∧
    (s.ttp.held = false →
      (s.drm.config.period ≤ s.drm.periodCount + 1 →
        exec .periodWrap s = exec (.indexArrival false false false []) s ∧
          ∃ t, exec .periodWrap s = .next t ∧ t.drm.periodCount = 0 ∧ t.ptk.indexCount = s.ptk.indexCount + 1 ∧
            (t.drm.applied - s.drm.applied).natAbs ≤ s.drm.config.step) ∧
      (s.drm.periodCount + 1 < s.drm.config.period → exec .periodWrap s = .next s) ∧
      (s.record (pocketAt s 0) = none → s.ptk.opState = .run → begins count →
        exec .overdueEpisodeStart s = exec (.loadArrival false) s ∧
          ∃ t, exec .overdueEpisodeStart s = .next t ∧ t.drm.overdueCount = count ∧ t.drm.overdueFlag = true ∧
            t.svl.attention.refOverdue = true ∧ t.ptk.serial = s.ptk.serial + 1) ∧
      (s.record (pocketAt s 0) ≠ none ∨ s.ptk.opState ≠ .run ∨ ¬begins count →
        exec .overdueEpisodeStart s = .next s))

/-- SET_DRIFT and CLEAR_DRIFT (R149, R151): a payload of five values in the ranges of Table 8.2 (`DriftConfig.meets`) replaces
the configuration and any other is refused; the latch is cleared exactly when the last sample is present and within the alarm
limit. That a refused CLEAR_DRIFT carries the payload too is DEDUCED (log entry 12). -/
def Obligations.DriftRequestsSetAndClear : Prop :=
  ∀ s : State, takesRequest s = true →
    (∀ c : DriftConfig, c.meets →
      exec (.setDrift (bodyOf (driftConfigBytes c))) s = .next
        ({ s with drm := { s.drm with config := c } }.answer 0x50 ⟨.ok, []⟩)) ∧
    (∀ p : List Byte, p.length = 8 → (∀ c : DriftConfig, c.meets → driftConfigBytes c ≠ p) →
      exec (.setDrift (bodyOf p)) s = .next (s.answer 0x50 ⟨.badValue, []⟩)) ∧
    (s.drm.lastSample = none →
      exec (.clearDrift (bodyOf [])) s = .next
        (s.answer 0x52 ⟨.condition, [if s.drm.latch then 1 else 0, 0, 0, 0, 0]⟩)) ∧
    ∀ v, s.drm.lastSample = some v →
      (v.natAbs ≤ s.drm.config.alarmLimit →
        exec (.clearDrift (bodyOf [])) s = .next
          ({ s with drm := { s.drm with latch := false } }.answer 0x52 ⟨.ok, [0, 1] ++ signedBytesOf 3 v⟩)) ∧
      (s.drm.config.alarmLimit < v.natAbs →
        exec (.clearDrift (bodyOf [])) s = .next
          (s.answer 0x52 ⟨.condition, [if s.drm.latch then 1 else 0, 1] ++ signedBytesOf 3 v⟩))

/-! ## Trips -/

/-- A trip trigger (R156, R157, R162): TRIPPED, the cause added, the count raised, the record captured with the ring as the
trip found it or its cause set extended, TRIP raised, the action complete flag set or cleared; nothing else but what the
trip action does to records, hold list, ports and bins. -/
def Obligations.TripTriggerRecordsTheCause : Prop :=
  ∀ (c : Cause) (s t : State), tripTrigger s c = t →
    (occupiedCount s = ((List.finRange 32).filter fun p => (s.record p).isSome).length ∧
      gradedCount s =
        ((List.finRange 32).filter fun p =>
          (s.record p).any fun r => match r.state with | .graded _ => true | _ => false).length) ∧
    t.ptk = { s.ptk with opState := .tripped, records := t.ptk.records } ∧
    t.trc.causes = s.trc.causes.add c ∧ t.trc.count = satAdd s.trc.count 1 ∧ t.trc.config = s.trc.config ∧
    (∀ snap, s.trc.record = .captured snap →
      t.trc.record = .captured { snap with causes := snap.causes.add c }) ∧
    ((∀ snap, s.trc.record ≠ .captured snap) →
      t.trc.record = .captured
        { firstCause := c, causes := s.trc.causes.add c, indexCount := s.ptk.indexCount, applied := s.drm.applied,
          target := s.drm.target, lastSample := s.drm.lastSample, occupied := occupiedCount s, graded := gradedCount s,
          bankA := s.bankA.state, bankB := s.bankB.state, portA := s.portA.state, portB := s.portB.state }) ∧
    (t.trc.complete = true ↔ s.trc.config.action = .recirculate ∨ occupiedCount s = 0) ∧
    t.svl = { s.svl with hold := t.svl.hold, attention := t.svl.attention } ∧
    t.svl.attention = { s.svl.attention with trip := true, swapReady := t.svl.attention.swapReady } ∧
    t.ttp = s.ttp ∧ t.bankA = s.bankA ∧ t.bankB = s.bankB ∧ t.gates = s.gates ∧ t.drm = s.drm

/-- The trip action (R158 to R161, with R7, R8, R56 and R115): every pocket 0 to P-1 by its state under the configured action,
the records at P and above untouched; the HELD pockets leave the hold list, the MEASURING ones the ports' lists as lost, a
port's timer going on for the same oldest entry, starting anew for another and stopping with an empty list, and its waiting
frames staying only with their entries (R47, R57); and the GRADED ones release their bins, a completed drain becoming EXCHANGE
with SWAP_READY. -/
def Obligations.TripActionsTreatEachPocket : Prop :=
  ∀ (c : Cause) (s t : State), tripTrigger s c = t →
    let a := s.trc.config.action
    let inRing := fun q : PocketNo => decide (q.val < s.ptk.ring.pockets)
    let lostAt := fun (id : PortId) (q : PocketNo) => (s.port id).entries.any fun e => e.pocket == q
    let swept := fun r : Part =>
      { r with state := .void, contact := none, measure := none, verify := none, deviation := none, grade := .ungraded }
    (∀ q, t.record q =
      if inRing q then
        (s.record q).map fun r =>
          match a, r.state with
          | .rejectAll, .graded (.bin _) => swept r
          | .rejectAll, .measuring => swept r
          | .rejectAll, .held => swept r
          | .keepGraded, .measuring => swept r
          | .keepGraded, .held => swept r
          | .recirculate, .graded _ => { r with state := .recirc, deviation := none, grade := .ungraded }
          | .recirculate, .held => { r with state := .recirc, deviation := none, grade := .ungraded }
          | .recirculate, .measuring =>
            { r with
              state := .recirc, deviation := none, grade := .ungraded,
              measure := if lostAt .a q then some .lost else r.measure,
              verify := if lostAt .b q then some .lost else r.verify }
          | _, _ => r
      else s.record q) ∧
    t.svl.hold = s.svl.hold.filter (fun e => !(inRing e.pocket && isHeld s e.pocket)) ∧
    (∀ id,
      let m := s.port id
      let gone := fun e : Outstanding => inRing e.pocket && isMeasuring s e.pocket
      let left := m.entries.filter fun e => !gone e
      (m.entries.filter gone = [] → t.port id = m) ∧
      (m.entries.filter gone ≠ [] →
        t.port id =
          { m with
            entries := left,
            timer := if left = [] then none else if left.head? = m.entries.head? then m.timer else some m.timeoutMs,
            txQueue := m.txQueue.filter fun f => left.any fun e => e.seq == f.seq && e.pocket == f.pocket,
            counts := { m.counts with lost := satAdd m.counts.lost (m.entries.filter gone).length } })) ∧
    (∀ b,
      let n := if a = .keepGraded then 0 else ((gradedFor s b).filter inRing).length
      t.bin b =
        { s.bin b with
          reserved := (s.bin b).reserved - n,
          state :=
            if (s.bin b).state = .draining ∧ 0 < n ∧ (s.bin b).reserved ≤ n ∧ pulseRunning s b = false then .exchange
            else (s.bin b).state }) ∧
    (t.svl.attention.swapReady = true ↔
      s.svl.attention.swapReady = true ∨ ∃ b, (s.bin b).state ≠ .exchange ∧ (t.bin b).state = .exchange)

/-- Voiding and recirculation marking of one record (R6 to R8): what each hands off by the state before, and what stays. Of a
MEASURING record the entries on both ports are lost, with the timer that goes on, starts anew or stops and the waiting frames
that go with their entries (R47, R56, R57). -/
def Obligations.VoidingAndMarkingHandOff : Prop :=
  ∀ (s : State) (p : PocketNo),
    (s.record p = none → voidPocket s p = s ∧ recircPocket s p = s ∧ emptyPocket s p = s) ∧
    ∀ r, s.record p = some r →
      let voided : Part :=
        { state := .void, serial := r.serial, tag := r.tag, kind := r.kind, retests := r.retests, contact := none,
          measure := none, verify := none, deviation := none, grade := .ungraded }
      let marked : Part := { r with state := .recirc, deviation := none, grade := .ungraded }
      let lostOn := fun id : PortId => (s.port id).entries.any fun e => e.pocket == p
      let without := fun m : MeterPort =>
        let left := m.entries.filter fun e => e.pocket != p
        if (m.entries.filter fun e => e.pocket == p) = [] then m
        else
          { m with
            entries := left,
            timer := if left = [] then none else if left.head? = m.entries.head? then m.timer else some m.timeoutMs,
            txQueue := m.txQueue.filter fun f => left.any fun e => e.seq == f.seq && e.pocket == f.pocket,
            counts :=
              { m.counts with lost := satAdd m.counts.lost (m.entries.filter fun e => e.pocket == p).length } }
      (r.state = .void → voidPocket s p = s) ∧
      (r.state = .graded .sweep ∨ r.state = .retest ∨ r.state = .recirc →
        voidPocket s p = s.setRecord p (some voided) ∧ recircPocket s p = s.setRecord p (some marked)) ∧
      (∀ b, r.state = .graded (.bin b) →
        voidPocket s p = (release s b).setRecord p (some voided) ∧
          recircPocket s p = (release s b).setRecord p (some marked)) ∧
      (r.state = .held →
        let u := s.setHold (s.svl.hold.filter fun e => e.pocket != p)
        voidPocket s p = u.setRecord p (some voided) ∧ recircPocket s p = u.setRecord p (some marked)) ∧
      (r.state = .measuring →
        let u := { s with portA := without s.portA, portB := without s.portB }
        voidPocket s p = u.setRecord p (some voided) ∧
          recircPocket s p = u.setRecord p
            (some
              { marked with
                measure := if lostOn .a then some .lost else r.measure,
                verify := if lostOn .b then some .lost else r.verify })) ∧
      ∃ t, emptyPocket s p = t ∧ t.record p = none ∧ (∀ q, q ≠ p → t.record q = s.record q) ∧
        (r.tag = none → t.bankA = s.bankA ∧ t.bankB = s.bankB ∧ t.svl = s.svl) ∧
        (∀ k, r.tag = some k →
          t.bank k = (departure s (some k)).bank k ∧ t.bank (otherBank k) = s.bank (otherBank k) ∧
            t.svl = (departure s (some k)).svl) ∧
        t.bins = s.bins ∧ t.gates = s.gates ∧ t.portA = s.portA ∧ t.portB = s.portB ∧ t.drm = s.drm ∧
        t.trc = { s.trc with complete := t.trc.complete } ∧
        (t.trc.complete = true ↔
          s.trc.complete = true ∨ (s.ptk.opState = .tripped ∧ ∀ q, q ≠ p → s.record q = none))

/-- SET_TRIP, TRIP, READ_TRIP and CLEAR_TRIP (R164, R165, R167, R168): the checks in order, the effects and the payloads,
TRIP with the expiry that its action may bring about at once (R57); READ_TRIP's bytes field by field (Table 10.11), with the
codes of the causes and the bits of a cause set (Table 10.8), and the fields of an EMPTY record 0 with a first cause of 0xFF;
and ACTION_COMPLETE as a command, which acts where the condition of R162 stands (DEDUCED, log entry 7). -/
def Obligations.TripRequestsSetAndClear : Prop :=
  ([Cause.drift, .meterA, .meterB, .slip, .safe, .command].map Cause.code = [0, 1, 2, 3, 4, 5] ∧
    ∀ c : CauseSet,
      (List.range 8).map c.byte.getLsbD = [c.drift, c.meterA, c.meterB, c.slip, c.safe, c.command, false, false] ∧
      [Cause.drift, .meterA, .meterB, .slip, .safe, .command].map c.has =
        [c.drift, c.meterA, c.meterB, c.slip, c.safe, c.command] ∧
      ∀ x y, (c.add x).has y = true ↔ y = x ∨ c.has y = true) ∧
  (∀ s : State,
    let u8 := fun n : Nat => BitVec.ofNat 8 n
    let flag := fun b : Bool => if b then (1 : Byte) else 0
    let fields := fun n : Snapshot =>
      [n.firstCause.code, n.causes.byte] ++ bytesOf 4 n.indexCount.toNat ++ signedBytesOf 2 n.applied ++
        signedBytesOf 2 n.target ++ [flag n.lastSample.isSome] ++ signedBytesOf 3 (n.lastSample.getD 0) ++
        [u8 n.occupied, u8 n.graded, n.bankA.code, n.bankB.code, n.portA.code, n.portB.code]
    tripPayload s =
      [if s.ptk.opState = .tripped then 1 else 0, s.trc.causes.byte, flag s.trc.complete, s.trc.config.action.code,
          flag s.trc.config.halt, flag s.trc.config.onMeterFault] ++
        (match s.trc.record with
          | .empty => [0, 0xFF, 0, 0, 0, 0, 0, 0, 0, 0, 0, 0, 0, 0, 0, 0, 0, 0, 0, 0, 0]
          | .captured n => 1 :: fields n
          | .read n => 2 :: fields n) ++
        bytesOf 2 s.trc.count.toNat) ∧
  (∀ s : State, takesRequest s = true →
    (∀ a h m : Byte,
      (s.ptk.opState = .tripped →
        exec (.setTrip (bodyOf [a, h, m])) s = .next (s.answer 0x60 ⟨.wrongState, tripConfigBytes s.trc.config⟩)) ∧
      (s.ptk.opState ≠ .tripped → 2 < a.toNat ∨ 1 < h.toNat ∨ 1 < m.toNat →
        exec (.setTrip (bodyOf [a, h, m])) s = .next (s.answer 0x60 ⟨.badValue, tripConfigBytes s.trc.config⟩))) ∧
    (∀ c : TripConfig, s.ptk.opState ≠ .tripped →
      exec (.setTrip (bodyOf (tripConfigBytes c))) s = .next
        ({ s with trc := { s.trc with config := c } }.answer 0x60 ⟨.ok, tripConfigBytes c⟩)) ∧
    (∀ t, tripTrigger s .command = t →
      exec (.trip (bodyOf [])) s = .next
        (settleTimers s (t.answer 0x61 ⟨.ok, [t.trc.causes.byte, if t.trc.complete then 1 else 0]⟩))) ∧
    ((tripPayload s).length = 29 ∧
      exec (.readTrip (bodyOf [])) s = .next
        ({ s with
           trc :=
             { s.trc with
               record :=
                 match s.trc.record with
                 | .captured n => .read n
                 | x => x } }.answer 0x62 ⟨.ok, tripPayload s⟩)) ∧
    (s.ptk.opState ≠ .tripped → exec (.clearTrip (bodyOf [])) s = .next (s.answer 0x63 ⟨.wrongState, []⟩)) ∧
    (s.ptk.opState = .tripped →
      let meters : Prop :=
        (s.trc.causes.meterA = true → s.portA.state = .online) ∧ (s.trc.causes.meterB = true → s.portB.state = .online)
      let met : Prop := s.trc.complete = true ∧ s.ttp.safeActive = false ∧ s.drm.latch = false ∧ meters
      (met →
        exec (.clearTrip (bodyOf [])) s = .next
          ({ s with
             ptk := { s.ptk with opState := .idle },
             trc := { s.trc with causes := ⟨false, false, false, false, false, false⟩, complete := false } }.answer
            0x63 ⟨.ok, []⟩)) ∧
      (¬met → ∃ x : Byte, exec (.clearTrip (bodyOf [])) s = .next (s.answer 0x63 ⟨.condition, [x]⟩) ∧
        (x.getLsbD 0 = true ↔ s.trc.complete = false) ∧ (x.getLsbD 1 = true ↔ s.ttp.safeActive = true) ∧
        (x.getLsbD 2 = true ↔ s.drm.latch = true) ∧ (x.getLsbD 3 = true ↔ ¬meters) ∧ x.toNat < 16))) ∧
  ∀ s : State, s.ttp.held = false →
    (s.ptk.opState = .tripped → (∀ p, s.record p = none) →
      exec .actionComplete s = .next { s with trc := { s.trc with complete := true } }) ∧
    (s.ptk.opState ≠ .tripped ∨ s.trc.complete = true ∨ (∃ p, s.record p ≠ none) → exec .actionComplete s = .next s)

/-! ## The supervisor link -/

/-- Transactions (R170 to R173, R175): the fall of nSCS, the bits and bytes on SDO and from SDI, most significant bit first with
an incomplete byte discarded, a NOP and an unknown opcode, and the rise of nSCS with the response it leaves pending. A NOP or an
unknown opcode with no transaction open stands for its whole transaction (DESIGN CHOICE, log entry 8); which response was
delivered in full is the model's own field (log entry 19); the end of a transaction carries its bits (log entry 20); the command
UNKNOWN_OPCODE answers UNKNOWN for whatever opcode it carries (log entry 24); a start within a transaction and an end without
one do nothing (log entry 26); SDO is driven at an open level until the first rise after a release (log entry 29). -/
def Obligations.TransactionsMoveTheResponses : Prop :=
  (∀ (b : Byte) (j : Nat), j < 8 → (bitsOf b)[j]? = some (b.getMsbD j)) ∧
  (∀ (bytes : List Byte) (extra : List Bool), extra.length < 8 →
    bytesOfBits (bytes.flatMap bitsOf ++ extra) = bytes) ∧
  [Status.ok, .unknown, .badLength, .badValue, .wrongState, .condition, .tooLate, .notHeld, .unavailable,
      .invalidSet].map Status.code = [0, 1, 2, 3, 4, 5, 6, 7, 8, 9] ∧
  (∀ (s : State) (op : Byte) (st : Status) (payload : List Byte),
    (s.svl.outgoing = none →
      s.answer op ⟨st, payload⟩ = { s with svl := { s.svl with pending := ⟨op, st, payload⟩ } }) ∧
    (s.svl.outgoing ≠ none →
      s.answer op ⟨st, payload⟩ =
        { s with svl := { s.svl with next := some ⟨op, st, payload⟩, taken := true } })) ∧
  ∀ s : State, s.ttp.held = false →
    (s.svl.ignoring = true →
      exec .transactionStart s = .next s ∧ (∀ i, sdoBit s i ≠ none) ∧
        ∀ bits n, exec (.transactionEnd bits n) s = .next { s with svl := { s.svl with ignoring := false } }) ∧
    (s.svl.ignoring = false → s.svl.outgoing = none →
      exec .transactionStart s = .next
        { s with
          svl := { s.svl with outgoing := some s.svl.pending, next := none, taken := false, collected := none } } ∧
      (∀ bits n, exec (.transactionEnd bits n) s = .next s) ∧ (∀ i, sdoBit s i = none ∧ sdoByte s i = none) ∧
      (∀ rest, exec (.nop rest) s = .next { s with svl := { s.svl with pending := ⟨0, .ok, []⟩ } }) ∧
      ∀ op b, exec (.unknownOpcode op b) s = .next { s with svl := { s.svl with pending := ⟨op, .unknown, []⟩ } }) ∧
    (s.svl.ignoring = false → ∀ out, s.svl.outgoing = some out →
      let onSdo := fun i : Nat =>
        ([out.opcode, out.status.code, BitVec.ofNat 8 out.payload.length] ++ out.payload)[i]?.getD 0
      exec .transactionStart s = .next s ∧
      (∀ i, sdoByte s i = some (onSdo i) ∧ ∀ j, j < 8 → sdoBit s (8 * i + j) = some ((onSdo i).getMsbD j)) ∧
      (∀ rest, exec (.nop rest) s = .next { s with svl := { s.svl with taken := true } }) ∧
      (∀ op b,
        (s.svl.taken = true → exec (.unknownOpcode op b) s = .next s) ∧
        (s.svl.taken = false →
          exec (.unknownOpcode op b) s = .next
            { s with svl := { s.svl with next := some ⟨op, .unknown, []⟩, taken := true } })) ∧
      ∀ bits n, ∃ s1 : State,
        exec (.transactionEnd bits n) s = .next
          { s1 with
            svl :=
              { s1.svl with
                outgoing := none, pending := s1.svl.next.getD ⟨0, .ok, []⟩, next := none, taken := false,
                collected := if 8 * (3 + out.payload.length) ≤ n then some out else none } } ∧
        (s.svl.taken = true ∨ bytesOfBits bits = [] ∨ (bytesOfBits bits).head? = some 0 → s1 = s) ∧
        (s.svl.taken = false → ∀ op rest, bytesOfBits bits = op :: rest → op ≠ 0 →
          (requestLength op = none → s1 = s.answer op ⟨.unknown, []⟩) ∧
          (requestLength op ≠ none →
            rest = [] ∨ (∃ len tail, rest = len :: tail ∧ (62 < len.toNat ∨ tail.length < len.toNat)) →
            s1 = s.answer op ⟨.badLength, []⟩)))

/-- Every request (R171, R172, R174, R187): the opcodes and lengths of Table 10.9; none is taken while reset is held, before
the first rise of nSCS, or after an opcode in the same transaction; a length other than Table 10.9's, or a
missing payload byte, is answered BAD_LENGTH; a refusal changes nothing but the response held (TRIP, which is never refused, may
be followed by an expiry, R57); and in a transaction of its own the request leaves its response pending at the rise of nSCS, the
same as when it stands alone (log entry 8), and a second request in it does nothing. The bits of a transaction whose bytes spell
the request, whatever bytes follow, do what the request's own command does (log entry 20). -/
def Obligations.RefusedRequestsChangeNothing : Prop :=
  ((List.range 256).filterMap fun n => (requestLength (BitVec.ofNat 8 n)).map fun l => (n, l)) =
    [(0x01, 0), (0x02, 0), (0x03, 0), (0x04, 3), (0x10, 22), (0x11, 0), (0x12, 0), (0x13, 0), (0x14, 1), (0x15, 0),
      (0x18, 4), (0x20, 2), (0x21, 1), (0x22, 1), (0x30, 21), (0x31, 14), (0x32, 6), (0x33, 1), (0x34, 1), (0x35, 3),
      (0x36, 1), (0x40, 5), (0x41, 1), (0x42, 1), (0x43, 1), (0x50, 8), (0x51, 0), (0x52, 0), (0x60, 3), (0x61, 0),
      (0x62, 0), (0x63, 0)] ∧
  (∀ s : State, takesRequest s = true ↔
    s.ttp.held = false ∧ s.svl.ignoring = false ∧ (s.svl.outgoing = none ∨ s.svl.taken = false)) ∧
  ∀ (i : Instr) (op : Byte) (b : Body) (s : State), requestOf i = some (op, b) →
    (takesRequest s = false → exec i s = .next s) ∧
    (takesRequest s = true →
      (requestLength op ≠ some b.len.toNat ∨ b.bytes.length < b.len.toNat →
        exec i s = .next (s.answer op ⟨.badLength, []⟩)) ∧
      ∃ t r, exec i s = .next (if op = 0x61 then settleTimers s (t.answer op r) else t.answer op r) ∧
        (r.status ≠ .ok → t = s)) ∧
    (takesRequest s = true → s.svl.outgoing = none →
      ∀ bits n, ∃ t u v w, exec .transactionStart s = .next t ∧ exec i t = .next u ∧ exec i u = .next u ∧
        exec (.transactionEnd bits n) u = .next v ∧ exec i s = .next w ∧
        u.svl.outgoing = some s.svl.pending ∧ v.svl.outgoing = none ∧ v.svl.pending = w.svl.pending ∧
        w.svl.pending.opcode = op) ∧
    (takesRequest s = true → s.svl.outgoing ≠ none → b.len.toNat ≤ 62 → b.bytes.length = b.len.toNat →
      ∀ extra n, ∃ u, exec i s = .next u ∧ u.svl.taken = true ∧
        ∀ bits,
          exec (.transactionEnd ((op :: b.len :: b.bytes).flatMap bitsOf ++ extra) n) s =
            exec (.transactionEnd bits n) u)

/-- VERDICT (R180, R181): the value checks, NOT_HELD, the gate check, the reservation with the class action's override, the
sweep, and the retest against the limit; what is accepted leaves the hold list, and every answer but BAD_VALUE carries the
pocket as the request left it, in the five bytes of Table 10.11. That the bin of an EMPTY pocket is sent as 0xFF is DEDUCED
(log entry 28). -/
def Obligations.VerdictsRuleOnHeldPockets : Prop :=
  ∀ s : State, takesRequest s = true →
    (∀ n k x : Byte, s.ptk.ring.pockets ≤ n.toNat ∨ 1 < k.toNat ∨ 15 < x.toNat →
      exec (.verdict (bodyOf [n, k, x])) s = .next (s.answer 0x04 ⟨.badValue, []⟩)) ∧
    ∀ p : PocketNo, p.val < s.ptk.ring.pockets →
      let c := fun k x : Byte => Instr.verdict (bodyOf [BitVec.ofNat 8 p.val, k, x])
      let payload := fun u : State =>
        [BitVec.ofNat 8 p.val,
          BitVec.ofNat 8 ((s.ptk.loadPointer + s.ptk.ring.pockets - p.val) % s.ptk.ring.pockets),
          match u.record p with
          | none => 0
          | some r => r.state.code,
          match (u.record p).map Part.state with
          | some (.graded .sweep) => 0
          | some (.graded (.bin b)) => BitVec.ofNat 8 (b.val + 1)
          | _ => 0xFF,
          BitVec.ofNat 8 u.svl.hold.length]
      let refused := fun st : Status => Host.Outcome.next (s.answer 0x04 ⟨st, payload s⟩)
      let accepted := fun t : State =>
        let u := t.setHold (t.svl.hold.filter fun e => e.pocket != p)
        Host.Outcome.next (u.answer 0x04 ⟨.ok, payload u⟩)
      ((∀ r, s.record p = some r → r.state ≠ .held) →
        ∀ k x : Byte, k.toNat ≤ 1 → x.toNat ≤ 15 → exec (c k x) s = refused .notHeld) ∧
      ∀ r, s.record p = some r → r.state = .held →
        exec (c 0 0) s = accepted (s.setRecord p (some { r with state := .graded .sweep })) ∧
        (∀ b : SortBin,
          let x := BitVec.ofNat 8 (b.val + 1)
          (s.ptk.ring.gates[b] ≤ offsetOf s p → exec (c 0 x) s = refused .tooLate) ∧
          (offsetOf s p < s.ptk.ring.gates[b] → ∀ k cls, r.tag = some k → r.grade = .byClass cls →
            let override := ((s.bank k).actions[cls.code]).override
            ((s.bin b).grants override = false → exec (c 0 x) s = refused .unavailable) ∧
            ((s.bin b).grants override = true →
              exec (c 0 x) s = accepted ((grant s b).setRecord p (some { r with state := .graded (.bin b) }))))) ∧
        ∀ x : Byte, x.toNat ≤ 15 → ∀ k, r.tag = some k →
          (r.retests < (s.bank k).lot.retestLimit →
            exec (c 1 x) s = accepted (s.setRecord p (some { r with retests := r.retests + 1, state := .retest }))) ∧
          ((s.bank k).lot.retestLimit ≤ r.retests → exec (c 1 x) s = refused .unavailable)

/-- The meter frames (R183 to R185): a byte on the line is a start bit at the space level, its bits least significant first
and a stop bit, and is received whatever the stop bit's level; the transmit line carries the frame's bytes so, and stands at
the mark level otherwise; the CRC bit by bit, most significant first, with its check value, a TRIGGER frame's bytes, and a
RESULT frame built from any field values reads back as those values with a good CRC. -/
def Obligations.MeterFramesAreBuiltAndRead : Prop :=
  (∀ (b : Byte) (stop : Bool),
    charLevels b stop =
        [false, b.getLsbD 0, b.getLsbD 1, b.getLsbD 2, b.getLsbD 3, b.getLsbD 4, b.getLsbD 5, b.getLsbD 6, b.getLsbD 7,
          stop] ∧
      byteOfLevels (charLevels b stop) = b) ∧
  (∀ (m : MeterPort) (i : Nat),
    (m.txSending = none → m.txLevel i = true) ∧
    ∀ f, m.txSending = some f →
      m.txLevel i = ((f.bytes.flatMap fun b => charLevels b true)[i]?).getD true ∧
        (f.bytes.flatMap fun b => charLevels b true).length = 70) ∧
  (crc16 [] = 0xFFFF#16 ∧ ∀ (bs : List Byte) (b : Byte),
    crc16 (bs ++ [b]) =
      (List.range 8).foldl (fun (reg : BitVec 16) j => if reg.msb = b.getMsbD j then reg <<< 1 else (reg <<< 1) ^^^ 0x1021#16)
        (crc16 bs)) ∧
  crc16 [0x31, 0x32, 0x33, 0x34, 0x35, 0x36, 0x37, 0x38, 0x39] = 0x29B1#16 ∧
  (∀ f : TriggerFrame, -3 ≤ f.exponent → f.exponent ≤ 6 →
    ∃ e c1 c0 : Byte, f.bytes = [0xA5, 0x54, f.seq, BitVec.ofNat 8 f.pocket.val, e, c1, c0] ∧
      e.toInt = f.exponent ∧ (c1 ++ c0 : BitVec 16) = crc16 [0x54, f.seq, BitVec.ofNat 8 f.pocket.val, e]) ∧
  ∀ f : ResultFrame, f.mantissa < 2 ^ 24 → -128 ≤ f.exponent → f.exponent ≤ 127 →
    -32768 ≤ f.temperature → f.temperature ≤ 32767 →
    let body := [f.kind, f.seq, f.pocket, f.status] ++ bytesOf 3 f.mantissa ++ signedBytesOf 1 f.exponent ++
      signedBytesOf 2 f.temperature
    let frame := 0xA5#8 :: body ++ bytesOf 2 (crc16 body).toNat
    frame.length = 13 ∧ crcGood frame = true ∧ resultFrameOf frame = some f

/-! ## The gates of a whole arrival -/

/-- The gate driver's share of an index arrival (R127 to R134): every pulse running before it ends, and afterwards a pulse of
the width in force runs on exactly the lines that fired: GATE b for a pocket at Gb GRADED with bin b, and GATE0 for a pocket
at W that is GRADED, VOID or HELD. The end of every pulse completes the drains that waited for it (R119, R135) and leaves the
rest; the gates of bins 1 to 15 are each taken once. -/
def Obligations.GatesPulseExactlyTheFired : Prop :=
  (∀ s t : State, endAllPulses s = t →
    t = { s with gates := t.gates, bins := t.bins, svl := { s.svl with attention := t.svl.attention } } ∧
    t.svl.attention = { s.svl.attention with swapReady := t.svl.attention.swapReady } ∧ (∀ l, t.pulse l = none) ∧
    let drained := fun b => (s.bin b).state = .draining ∧ (s.bin b).reserved = 0 ∧ s.pulse (lineOf b) ≠ none
    (∀ b, (drained b → t.bin b = { s.bin b with state := .exchange }) ∧ (¬drained b → t.bin b = s.bin b)) ∧
    (t.svl.attention.swapReady = true ↔ s.svl.attention.swapReady = true ∨ ∃ b, drained b)) ∧
  (∀ s : State, fireGates s = (List.finRange 15).foldl fireGate s) ∧
  ∀ (slipped : Bool) (s : State), RingOk s →
    let t := takeShare slipped s .gates
    let fresh : Option Pulse := some { width := s.ptk.ring.pulseWidth, elapsed := 0 }
    (∀ b : SortBin,
      t.pulse (lineOf b) =
        if (s.record (pocketAt s s.ptk.ring.gates[b])).any (fun r => r.state == .graded (.bin b)) then fresh else none) ∧
    t.pulse 0 =
      (if (s.record (pocketAt s s.ptk.ring.sweep)).any
          (fun r => r.isGraded || r.state == .void || r.state == .held) then fresh
       else none) ∧
    (∀ q, t.record q =
      if (∃ b : SortBin, q = pocketAt s s.ptk.ring.gates[b] ∧ (s.record q).any (fun r => r.state == .graded (.bin b)) = true) ∨
          (q = pocketAt s s.ptk.ring.sweep ∧
            (s.record q).any (fun r => r.isGraded || r.state == .void || r.state == .held) = true) then none
      else s.record q)

/-! ## The laws that every step keeps -/

/-- The ring's law (R2 to R4, R9, R22) is kept by every step. -/
def Obligations.RingLawIsKept : Prop :=
  ∀ s t : State, RingOk s → step s = .next t → RingOk t

/-- The hold list's law (R178) is kept by every step from a state with the ring's law. -/
def Obligations.HoldLawIsKept : Prop :=
  ∀ s t : State, RingOk s → HoldOk s → step s = .next t → HoldOk t

/-- The bins' law (R108 to R111, R119) is kept by every step from a state with the ring's law. -/
def Obligations.BinsLawIsKept : Prop :=
  ∀ s t : State, RingOk s → BinsOk s → step s = .next t → BinsOk t

/-- The ports' law (R40, R42, R57, R58) is kept by every step from a state with the law of a held reset. -/
def Obligations.PortsLawIsKept : Prop :=
  ∀ s t : State, HeldOk s → PortsOk s → step s = .next t → PortsOk t

/-- The banks' law (R15, R81, R93, R94), the lot balance of each bank (R104) and the retest law (R101) are kept by every
step. -/
def Obligations.BanksLawAndLotBalanceAreKept : Prop :=
  ∀ s t : State, BanksOk s → step s = .next t →
    BanksOk t ∧ (∀ k, LotBalances s k → LotBalances t k) ∧ (RetestsOk s → RetestsOk t)

/-- The drift monitor's law (Tables 8.1 and 8.2) and the trip law (R150, R156, R162) are kept by every step. -/
def Obligations.DriftAndTripLawsAreKept : Prop :=
  ∀ s t : State, step s = .next t → (DriftOk s → DriftOk t) ∧ (TripOk s → TripOk t)

/-- The supervisor link's law (R170 to R172) and the law of a held reset (R37, R169) are kept by every step. -/
def Obligations.LinkAndHeldLawsAreKept : Prop :=
  ∀ s t : State, HeldOk s → step s = .next t → HeldOk t ∧ (LinkOk s → LinkOk t)

/-- The state after reset meets every law. The pin levels at the release are the model's choice (DESIGN CHOICE, log entry 3). -/
def Obligations.ResetMeetsEveryLaw : Prop :=
  RingOk State.reset ∧ HoldOk State.reset ∧ BinsOk State.reset ∧ PortsOk State.reset ∧ BanksOk State.reset ∧
    (∀ k, LotBalances State.reset k) ∧ RetestsOk State.reset ∧ DriftOk State.reset ∧ TripOk State.reset ∧
    LinkOk State.reset ∧ HeldOk State.reset

/-- What only some commands change. But for the two resets: attention flags are cleared by a READ_ATTENTION request alone
(R176), TRIPPED is left by CLEAR_TRIP alone (R21), the ring configuration changes at SET_RING (R22), the serial counter at a
load arrival (R5), the index counter at an index arrival (R9), a bank's lot, entries and actions only while it is STANDBY
(R85), the drift and trip configurations at their requests (R151, R168), the box sequence at SWAP_DONE and a capacity at
SET_BIN (R120, R125), and the applied offset only at an index arrival, by at most the step (R143). A request is made by its
own command or by the end of a transaction with its opcode; PERIOD_WRAP is an index arrival and OVERDUE_EPISODE_START a load
(log entry 7). -/
def Obligations.OnlySomeCommandsChange : Prop :=
  ∀ (c : Instr) (s t : State), isReset c = false → exec c s = .next t →
    ((∃ f, s.svl.attention.has f = true ∧ t.svl.attention.has f = false) → asks 0x02 c = true) ∧
    (s.ptk.opState = .tripped → t.ptk.opState ≠ .tripped → asks 0x63 c = true) ∧
    (t.ptk.ring ≠ s.ptk.ring → asks 0x10 c = true) ∧
    (t.ptk.serial ≠ s.ptk.serial → loads c = true) ∧
    (t.ptk.indexCount ≠ s.ptk.indexCount → indexes c = true) ∧
    (∀ k, (s.bank k).state ≠ .standby →
      (t.bank k).lot = (s.bank k).lot ∧ (t.bank k).entries = (s.bank k).entries ∧
        (t.bank k).actions = (s.bank k).actions) ∧
    (t.drm.config ≠ s.drm.config → asks 0x50 c = true) ∧
    (t.trc.config ≠ s.trc.config → asks 0x60 c = true) ∧
    (∀ b, ((t.bin b).boxSeq ≠ (s.bin b).boxSeq → asks 0x43 c = true) ∧
      ((t.bin b).capacity ≠ (s.bin b).capacity → asks 0x40 c = true)) ∧
    (t.drm.applied ≠ s.drm.applied → indexes c = true) ∧
    (t.drm.applied - s.drm.applied).natAbs ≤ s.drm.config.step

end
end

