-- ==== Sys2Proof/Laws/State.lean ====
section
/-! SUPPORT. One lemma per field of `State` per update: what each named update writes, and that it leaves the rest. -/

namespace Sys2Proof.Machine

variable (s : State)

/-! ### `raise`: an attention flag (R176) -/

@[simp] theorem State.raise_ptk (f : Flag) : (s.raise f).ptk = s.ptk := rfl
@[simp] theorem State.raise_ttp (f : Flag) : (s.raise f).ttp = s.ttp := rfl
@[simp] theorem State.raise_portA (f : Flag) : (s.raise f).portA = s.portA := rfl
@[simp] theorem State.raise_portB (f : Flag) : (s.raise f).portB = s.portB := rfl
@[simp] theorem State.raise_bankA (f : Flag) : (s.raise f).bankA = s.bankA := rfl
@[simp] theorem State.raise_bankB (f : Flag) : (s.raise f).bankB = s.bankB := rfl
@[simp] theorem State.raise_bins (f : Flag) : (s.raise f).bins = s.bins := rfl
@[simp] theorem State.raise_gates (f : Flag) : (s.raise f).gates = s.gates := rfl
@[simp] theorem State.raise_drm (f : Flag) : (s.raise f).drm = s.drm := rfl
@[simp] theorem State.raise_trc (f : Flag) : (s.raise f).trc = s.trc := rfl
@[simp] theorem State.raise_ticks (f : Flag) : (s.raise f).ticks = s.ticks := rfl
@[simp] theorem State.raise_pending (f : Flag) : (s.raise f).pending = s.pending := rfl
@[simp] theorem State.raise_svl_pending (f : Flag) : (s.raise f).svl.pending = s.svl.pending := rfl
@[simp] theorem State.raise_svl_outgoing (f : Flag) : (s.raise f).svl.outgoing = s.svl.outgoing := rfl
@[simp] theorem State.raise_svl_next (f : Flag) : (s.raise f).svl.next = s.svl.next := rfl
@[simp] theorem State.raise_svl_taken (f : Flag) : (s.raise f).svl.taken = s.svl.taken := rfl
@[simp] theorem State.raise_svl_ignoring (f : Flag) : (s.raise f).svl.ignoring = s.svl.ignoring := rfl
@[simp] theorem State.raise_svl_collected (f : Flag) : (s.raise f).svl.collected = s.svl.collected := rfl
@[simp] theorem State.raise_svl_hold (f : Flag) : (s.raise f).svl.hold = s.svl.hold := rfl
@[simp] theorem State.raise_svl_attention (f : Flag) : (s.raise f).svl.attention = s.svl.attention.raise f := rfl

/-! ### `setRecord`: a pocket's record (R4) -/

@[simp] theorem State.setRecord_ttp (p : PocketNo) (r : Option Part) : (s.setRecord p r).ttp = s.ttp := rfl
@[simp] theorem State.setRecord_portA (p : PocketNo) (r : Option Part) : (s.setRecord p r).portA = s.portA := rfl
@[simp] theorem State.setRecord_portB (p : PocketNo) (r : Option Part) : (s.setRecord p r).portB = s.portB := rfl
@[simp] theorem State.setRecord_bankA (p : PocketNo) (r : Option Part) : (s.setRecord p r).bankA = s.bankA := rfl
@[simp] theorem State.setRecord_bankB (p : PocketNo) (r : Option Part) : (s.setRecord p r).bankB = s.bankB := rfl
@[simp] theorem State.setRecord_bins (p : PocketNo) (r : Option Part) : (s.setRecord p r).bins = s.bins := rfl
@[simp] theorem State.setRecord_gates (p : PocketNo) (r : Option Part) : (s.setRecord p r).gates = s.gates := rfl
@[simp] theorem State.setRecord_drm (p : PocketNo) (r : Option Part) : (s.setRecord p r).drm = s.drm := rfl
@[simp] theorem State.setRecord_trc (p : PocketNo) (r : Option Part) : (s.setRecord p r).trc = s.trc := rfl
@[simp] theorem State.setRecord_svl (p : PocketNo) (r : Option Part) : (s.setRecord p r).svl = s.svl := rfl
@[simp] theorem State.setRecord_ticks (p : PocketNo) (r : Option Part) : (s.setRecord p r).ticks = s.ticks := rfl
@[simp] theorem State.setRecord_pending (p : PocketNo) (r : Option Part) : (s.setRecord p r).pending = s.pending := rfl
@[simp] theorem State.setRecord_ptk_ring (p : PocketNo) (r : Option Part) : (s.setRecord p r).ptk.ring = s.ptk.ring := rfl
@[simp] theorem State.setRecord_ptk_loadPointer (p : PocketNo) (r : Option Part) : (s.setRecord p r).ptk.loadPointer = s.ptk.loadPointer := rfl
@[simp] theorem State.setRecord_ptk_serial (p : PocketNo) (r : Option Part) : (s.setRecord p r).ptk.serial = s.ptk.serial := rfl
@[simp] theorem State.setRecord_ptk_opState (p : PocketNo) (r : Option Part) : (s.setRecord p r).ptk.opState = s.ptk.opState := rfl
@[simp] theorem State.setRecord_ptk_indexCount (p : PocketNo) (r : Option Part) : (s.setRecord p r).ptk.indexCount = s.ptk.indexCount := rfl
@[simp] theorem State.setRecord_ptk_conflicts (p : PocketNo) (r : Option Part) : (s.setRecord p r).ptk.conflicts = s.ptk.conflicts := rfl
@[simp] theorem State.setRecord_ptk_untracked (p : PocketNo) (r : Option Part) : (s.setRecord p r).ptk.untracked = s.ptk.untracked := rfl
@[simp] theorem State.setRecord_ptk_records (p : PocketNo) (r : Option Part) : (s.setRecord p r).ptk.records = s.ptk.records.set p r p.isLt := rfl

/-! ### `setBin`: a bin's record (R108) -/

@[simp] theorem State.setBin_ptk (b : SortBin) (r : BinRec) : (s.setBin b r).ptk = s.ptk := rfl
@[simp] theorem State.setBin_ttp (b : SortBin) (r : BinRec) : (s.setBin b r).ttp = s.ttp := rfl
@[simp] theorem State.setBin_portA (b : SortBin) (r : BinRec) : (s.setBin b r).portA = s.portA := rfl
@[simp] theorem State.setBin_portB (b : SortBin) (r : BinRec) : (s.setBin b r).portB = s.portB := rfl
@[simp] theorem State.setBin_bankA (b : SortBin) (r : BinRec) : (s.setBin b r).bankA = s.bankA := rfl
@[simp] theorem State.setBin_bankB (b : SortBin) (r : BinRec) : (s.setBin b r).bankB = s.bankB := rfl
@[simp] theorem State.setBin_gates (b : SortBin) (r : BinRec) : (s.setBin b r).gates = s.gates := rfl
@[simp] theorem State.setBin_drm (b : SortBin) (r : BinRec) : (s.setBin b r).drm = s.drm := rfl
@[simp] theorem State.setBin_trc (b : SortBin) (r : BinRec) : (s.setBin b r).trc = s.trc := rfl
@[simp] theorem State.setBin_svl (b : SortBin) (r : BinRec) : (s.setBin b r).svl = s.svl := rfl
@[simp] theorem State.setBin_ticks (b : SortBin) (r : BinRec) : (s.setBin b r).ticks = s.ticks := rfl
@[simp] theorem State.setBin_pending (b : SortBin) (r : BinRec) : (s.setBin b r).pending = s.pending := rfl
@[simp] theorem State.setBin_bins (b : SortBin) (r : BinRec) : (s.setBin b r).bins = s.bins.set b r b.isLt := rfl

/-! ### `setPulse`: a pulse timer (R127) -/

@[simp] theorem State.setPulse_ptk (l : Line) (q : Option Pulse) : (s.setPulse l q).ptk = s.ptk := rfl
@[simp] theorem State.setPulse_ttp (l : Line) (q : Option Pulse) : (s.setPulse l q).ttp = s.ttp := rfl
@[simp] theorem State.setPulse_portA (l : Line) (q : Option Pulse) : (s.setPulse l q).portA = s.portA := rfl
@[simp] theorem State.setPulse_portB (l : Line) (q : Option Pulse) : (s.setPulse l q).portB = s.portB := rfl
@[simp] theorem State.setPulse_bankA (l : Line) (q : Option Pulse) : (s.setPulse l q).bankA = s.bankA := rfl
@[simp] theorem State.setPulse_bankB (l : Line) (q : Option Pulse) : (s.setPulse l q).bankB = s.bankB := rfl
@[simp] theorem State.setPulse_bins (l : Line) (q : Option Pulse) : (s.setPulse l q).bins = s.bins := rfl
@[simp] theorem State.setPulse_drm (l : Line) (q : Option Pulse) : (s.setPulse l q).drm = s.drm := rfl
@[simp] theorem State.setPulse_trc (l : Line) (q : Option Pulse) : (s.setPulse l q).trc = s.trc := rfl
@[simp] theorem State.setPulse_svl (l : Line) (q : Option Pulse) : (s.setPulse l q).svl = s.svl := rfl
@[simp] theorem State.setPulse_ticks (l : Line) (q : Option Pulse) : (s.setPulse l q).ticks = s.ticks := rfl
@[simp] theorem State.setPulse_pending (l : Line) (q : Option Pulse) : (s.setPulse l q).pending = s.pending := rfl
@[simp] theorem State.setPulse_gates (l : Line) (q : Option Pulse) : (s.setPulse l q).gates = s.gates.set l q l.isLt := rfl

/-! ### `setOpState`: the operating state (R18) -/

@[simp] theorem State.setOpState_ttp (o : OpState) : (s.setOpState o).ttp = s.ttp := rfl
@[simp] theorem State.setOpState_portA (o : OpState) : (s.setOpState o).portA = s.portA := rfl
@[simp] theorem State.setOpState_portB (o : OpState) : (s.setOpState o).portB = s.portB := rfl
@[simp] theorem State.setOpState_bankA (o : OpState) : (s.setOpState o).bankA = s.bankA := rfl
@[simp] theorem State.setOpState_bankB (o : OpState) : (s.setOpState o).bankB = s.bankB := rfl
@[simp] theorem State.setOpState_bins (o : OpState) : (s.setOpState o).bins = s.bins := rfl
@[simp] theorem State.setOpState_gates (o : OpState) : (s.setOpState o).gates = s.gates := rfl
@[simp] theorem State.setOpState_drm (o : OpState) : (s.setOpState o).drm = s.drm := rfl
@[simp] theorem State.setOpState_trc (o : OpState) : (s.setOpState o).trc = s.trc := rfl
@[simp] theorem State.setOpState_svl (o : OpState) : (s.setOpState o).svl = s.svl := rfl
@[simp] theorem State.setOpState_ticks (o : OpState) : (s.setOpState o).ticks = s.ticks := rfl
@[simp] theorem State.setOpState_pending (o : OpState) : (s.setOpState o).pending = s.pending := rfl
@[simp] theorem State.setOpState_ptk_ring (o : OpState) : (s.setOpState o).ptk.ring = s.ptk.ring := rfl
@[simp] theorem State.setOpState_ptk_loadPointer (o : OpState) : (s.setOpState o).ptk.loadPointer = s.ptk.loadPointer := rfl
@[simp] theorem State.setOpState_ptk_serial (o : OpState) : (s.setOpState o).ptk.serial = s.ptk.serial := rfl
@[simp] theorem State.setOpState_ptk_indexCount (o : OpState) : (s.setOpState o).ptk.indexCount = s.ptk.indexCount := rfl
@[simp] theorem State.setOpState_ptk_conflicts (o : OpState) : (s.setOpState o).ptk.conflicts = s.ptk.conflicts := rfl
@[simp] theorem State.setOpState_ptk_untracked (o : OpState) : (s.setOpState o).ptk.untracked = s.ptk.untracked := rfl
@[simp] theorem State.setOpState_ptk_records (o : OpState) : (s.setOpState o).ptk.records = s.ptk.records := rfl
@[simp] theorem State.setOpState_ptk_opState (o : OpState) : (s.setOpState o).ptk.opState = o := rfl

/-! ### `modDrm`: the drift monitor -/

@[simp] theorem State.modDrm_ptk (f : Drm → Drm) : (s.modDrm f).ptk = s.ptk := rfl
@[simp] theorem State.modDrm_ttp (f : Drm → Drm) : (s.modDrm f).ttp = s.ttp := rfl
@[simp] theorem State.modDrm_portA (f : Drm → Drm) : (s.modDrm f).portA = s.portA := rfl
@[simp] theorem State.modDrm_portB (f : Drm → Drm) : (s.modDrm f).portB = s.portB := rfl
@[simp] theorem State.modDrm_bankA (f : Drm → Drm) : (s.modDrm f).bankA = s.bankA := rfl
@[simp] theorem State.modDrm_bankB (f : Drm → Drm) : (s.modDrm f).bankB = s.bankB := rfl
@[simp] theorem State.modDrm_bins (f : Drm → Drm) : (s.modDrm f).bins = s.bins := rfl
@[simp] theorem State.modDrm_gates (f : Drm → Drm) : (s.modDrm f).gates = s.gates := rfl
@[simp] theorem State.modDrm_trc (f : Drm → Drm) : (s.modDrm f).trc = s.trc := rfl
@[simp] theorem State.modDrm_svl (f : Drm → Drm) : (s.modDrm f).svl = s.svl := rfl
@[simp] theorem State.modDrm_ticks (f : Drm → Drm) : (s.modDrm f).ticks = s.ticks := rfl
@[simp] theorem State.modDrm_pending (f : Drm → Drm) : (s.modDrm f).pending = s.pending := rfl
@[simp] theorem State.modDrm_drm (f : Drm → Drm) : (s.modDrm f).drm = f s.drm := rfl

/-! ### `modTrc`: the trip controller -/

@[simp] theorem State.modTrc_ptk (f : Trc → Trc) : (s.modTrc f).ptk = s.ptk := rfl
@[simp] theorem State.modTrc_ttp (f : Trc → Trc) : (s.modTrc f).ttp = s.ttp := rfl
@[simp] theorem State.modTrc_portA (f : Trc → Trc) : (s.modTrc f).portA = s.portA := rfl
@[simp] theorem State.modTrc_portB (f : Trc → Trc) : (s.modTrc f).portB = s.portB := rfl
@[simp] theorem State.modTrc_bankA (f : Trc → Trc) : (s.modTrc f).bankA = s.bankA := rfl
@[simp] theorem State.modTrc_bankB (f : Trc → Trc) : (s.modTrc f).bankB = s.bankB := rfl
@[simp] theorem State.modTrc_bins (f : Trc → Trc) : (s.modTrc f).bins = s.bins := rfl
@[simp] theorem State.modTrc_gates (f : Trc → Trc) : (s.modTrc f).gates = s.gates := rfl
@[simp] theorem State.modTrc_drm (f : Trc → Trc) : (s.modTrc f).drm = s.drm := rfl
@[simp] theorem State.modTrc_svl (f : Trc → Trc) : (s.modTrc f).svl = s.svl := rfl
@[simp] theorem State.modTrc_ticks (f : Trc → Trc) : (s.modTrc f).ticks = s.ticks := rfl
@[simp] theorem State.modTrc_pending (f : Trc → Trc) : (s.modTrc f).pending = s.pending := rfl
@[simp] theorem State.modTrc_trc (f : Trc → Trc) : (s.modTrc f).trc = f s.trc := rfl

/-! ### `setHold`: the hold list (R178) -/

@[simp] theorem State.setHold_ptk (h : List HoldEntry) : (s.setHold h).ptk = s.ptk := rfl
@[simp] theorem State.setHold_ttp (h : List HoldEntry) : (s.setHold h).ttp = s.ttp := rfl
@[simp] theorem State.setHold_portA (h : List HoldEntry) : (s.setHold h).portA = s.portA := rfl
@[simp] theorem State.setHold_portB (h : List HoldEntry) : (s.setHold h).portB = s.portB := rfl
@[simp] theorem State.setHold_bankA (h : List HoldEntry) : (s.setHold h).bankA = s.bankA := rfl
@[simp] theorem State.setHold_bankB (h : List HoldEntry) : (s.setHold h).bankB = s.bankB := rfl
@[simp] theorem State.setHold_bins (h : List HoldEntry) : (s.setHold h).bins = s.bins := rfl
@[simp] theorem State.setHold_gates (h : List HoldEntry) : (s.setHold h).gates = s.gates := rfl
@[simp] theorem State.setHold_drm (h : List HoldEntry) : (s.setHold h).drm = s.drm := rfl
@[simp] theorem State.setHold_trc (h : List HoldEntry) : (s.setHold h).trc = s.trc := rfl
@[simp] theorem State.setHold_ticks (h : List HoldEntry) : (s.setHold h).ticks = s.ticks := rfl
@[simp] theorem State.setHold_pending (h : List HoldEntry) : (s.setHold h).pending = s.pending := rfl
@[simp] theorem State.setHold_svl_pending (h : List HoldEntry) : (s.setHold h).svl.pending = s.svl.pending := rfl
@[simp] theorem State.setHold_svl_outgoing (h : List HoldEntry) : (s.setHold h).svl.outgoing = s.svl.outgoing := rfl
@[simp] theorem State.setHold_svl_next (h : List HoldEntry) : (s.setHold h).svl.next = s.svl.next := rfl
@[simp] theorem State.setHold_svl_taken (h : List HoldEntry) : (s.setHold h).svl.taken = s.svl.taken := rfl
@[simp] theorem State.setHold_svl_ignoring (h : List HoldEntry) : (s.setHold h).svl.ignoring = s.svl.ignoring := rfl
@[simp] theorem State.setHold_svl_collected (h : List HoldEntry) : (s.setHold h).svl.collected = s.svl.collected := rfl
@[simp] theorem State.setHold_svl_attention (h : List HoldEntry) : (s.setHold h).svl.attention = s.svl.attention := rfl
@[simp] theorem State.setHold_svl_hold (h : List HoldEntry) : (s.setHold h).svl.hold = h := rfl

/-! ### `modBank`: a grade bank -/

@[simp] theorem State.modBank_ptk (k : BankId) (f : Bank → Bank) : (s.modBank k f).ptk = s.ptk := by cases k <;> rfl
@[simp] theorem State.modBank_ttp (k : BankId) (f : Bank → Bank) : (s.modBank k f).ttp = s.ttp := by cases k <;> rfl
@[simp] theorem State.modBank_portA (k : BankId) (f : Bank → Bank) : (s.modBank k f).portA = s.portA := by cases k <;> rfl
@[simp] theorem State.modBank_portB (k : BankId) (f : Bank → Bank) : (s.modBank k f).portB = s.portB := by cases k <;> rfl
@[simp] theorem State.modBank_bins (k : BankId) (f : Bank → Bank) : (s.modBank k f).bins = s.bins := by cases k <;> rfl
@[simp] theorem State.modBank_gates (k : BankId) (f : Bank → Bank) : (s.modBank k f).gates = s.gates := by cases k <;> rfl
@[simp] theorem State.modBank_drm (k : BankId) (f : Bank → Bank) : (s.modBank k f).drm = s.drm := by cases k <;> rfl
@[simp] theorem State.modBank_trc (k : BankId) (f : Bank → Bank) : (s.modBank k f).trc = s.trc := by cases k <;> rfl
@[simp] theorem State.modBank_svl (k : BankId) (f : Bank → Bank) : (s.modBank k f).svl = s.svl := by cases k <;> rfl
@[simp] theorem State.modBank_ticks (k : BankId) (f : Bank → Bank) : (s.modBank k f).ticks = s.ticks := by cases k <;> rfl
@[simp] theorem State.modBank_pending (k : BankId) (f : Bank → Bank) : (s.modBank k f).pending = s.pending := by cases k <;> rfl
@[simp] theorem State.bank_modBank_same (k : BankId) (f : Bank → Bank) : (s.modBank k f).bank k = f (s.bank k) := by
  cases k <;> rfl
@[simp] theorem State.bank_modBank_other (k : BankId) (f : Bank → Bank) :
    (s.modBank k f).bank (otherBank k) = s.bank (otherBank k) := by
  cases k <;> rfl

/-! ### `modPort`: a meter port -/

@[simp] theorem State.modPort_ptk (i : PortId) (f : MeterPort → MeterPort) : (s.modPort i f).ptk = s.ptk := by cases i <;> rfl
@[simp] theorem State.modPort_ttp (i : PortId) (f : MeterPort → MeterPort) : (s.modPort i f).ttp = s.ttp := by cases i <;> rfl
@[simp] theorem State.modPort_bankA (i : PortId) (f : MeterPort → MeterPort) : (s.modPort i f).bankA = s.bankA := by cases i <;> rfl
@[simp] theorem State.modPort_bankB (i : PortId) (f : MeterPort → MeterPort) : (s.modPort i f).bankB = s.bankB := by cases i <;> rfl
@[simp] theorem State.modPort_bins (i : PortId) (f : MeterPort → MeterPort) : (s.modPort i f).bins = s.bins := by cases i <;> rfl
@[simp] theorem State.modPort_gates (i : PortId) (f : MeterPort → MeterPort) : (s.modPort i f).gates = s.gates := by cases i <;> rfl
@[simp] theorem State.modPort_drm (i : PortId) (f : MeterPort → MeterPort) : (s.modPort i f).drm = s.drm := by cases i <;> rfl
@[simp] theorem State.modPort_trc (i : PortId) (f : MeterPort → MeterPort) : (s.modPort i f).trc = s.trc := by cases i <;> rfl
@[simp] theorem State.modPort_svl (i : PortId) (f : MeterPort → MeterPort) : (s.modPort i f).svl = s.svl := by cases i <;> rfl
@[simp] theorem State.modPort_ticks (i : PortId) (f : MeterPort → MeterPort) : (s.modPort i f).ticks = s.ticks := by cases i <;> rfl
@[simp] theorem State.modPort_pending (i : PortId) (f : MeterPort → MeterPort) : (s.modPort i f).pending = s.pending := by cases i <;> rfl
@[simp] theorem State.port_modPort_same (i : PortId) (f : MeterPort → MeterPort) : (s.modPort i f).port i = f (s.port i) := by
  cases i <;> rfl

/-! ### `answer`: a response waits (R172) -/

@[simp] theorem State.answer_ptk (op : Byte) (r : Reply) : (s.answer op r).ptk = s.ptk := rfl
@[simp] theorem State.answer_ttp (op : Byte) (r : Reply) : (s.answer op r).ttp = s.ttp := rfl
@[simp] theorem State.answer_portA (op : Byte) (r : Reply) : (s.answer op r).portA = s.portA := rfl
@[simp] theorem State.answer_portB (op : Byte) (r : Reply) : (s.answer op r).portB = s.portB := rfl
@[simp] theorem State.answer_bankA (op : Byte) (r : Reply) : (s.answer op r).bankA = s.bankA := rfl
@[simp] theorem State.answer_bankB (op : Byte) (r : Reply) : (s.answer op r).bankB = s.bankB := rfl
@[simp] theorem State.answer_bins (op : Byte) (r : Reply) : (s.answer op r).bins = s.bins := rfl
@[simp] theorem State.answer_gates (op : Byte) (r : Reply) : (s.answer op r).gates = s.gates := rfl
@[simp] theorem State.answer_drm (op : Byte) (r : Reply) : (s.answer op r).drm = s.drm := rfl
@[simp] theorem State.answer_trc (op : Byte) (r : Reply) : (s.answer op r).trc = s.trc := rfl
@[simp] theorem State.answer_ticks (op : Byte) (r : Reply) : (s.answer op r).ticks = s.ticks := rfl
@[simp] theorem State.answer_pending (op : Byte) (r : Reply) : (s.answer op r).pending = s.pending := rfl
@[simp] theorem State.answer_svl_outgoing (op : Byte) (r : Reply) : (s.answer op r).svl.outgoing = s.svl.outgoing := by
  unfold State.answer Svl.answer; split <;> rfl
@[simp] theorem State.answer_svl_ignoring (op : Byte) (r : Reply) : (s.answer op r).svl.ignoring = s.svl.ignoring := by
  unfold State.answer Svl.answer; split <;> rfl
@[simp] theorem State.answer_svl_collected (op : Byte) (r : Reply) : (s.answer op r).svl.collected = s.svl.collected := by
  unfold State.answer Svl.answer; split <;> rfl
@[simp] theorem State.answer_svl_attention (op : Byte) (r : Reply) : (s.answer op r).svl.attention = s.svl.attention := by
  unfold State.answer Svl.answer; split <;> rfl
@[simp] theorem State.answer_svl_hold (op : Byte) (r : Reply) : (s.answer op r).svl.hold = s.svl.hold := by
  unfold State.answer Svl.answer; split <;> rfl

/-! ### Records, bins and timers read back -/

@[simp] theorem State.record_setRecord_same (p : PocketNo) (r : Option Part) : (s.setRecord p r).record p = r := by
  simp [State.record]

theorem State.record_setRecord_ne {p q : PocketNo} (h : p ≠ q) (r : Option Part) :
    (s.setRecord p r).record q = s.record q := by
  have : p.val ≠ q.val := fun e => h (Fin.ext e)
  simp [State.record, this]

@[simp] theorem State.bin_setBin_same (b : SortBin) (r : BinRec) : (s.setBin b r).bin b = r := by
  simp [State.bin]

theorem State.bin_setBin_ne {b c : SortBin} (h : b ≠ c) (r : BinRec) : (s.setBin b r).bin c = s.bin c := by
  have : b.val ≠ c.val := fun e => h (Fin.ext e)
  simp [State.bin, this]

@[simp] theorem State.pulse_setPulse_same (l : Line) (q : Option Pulse) : (s.setPulse l q).pulse l = q := by
  simp [State.pulse]

theorem State.pulse_setPulse_ne {l m : Line} (h : l ≠ m) (q : Option Pulse) : (s.setPulse l q).pulse m = s.pulse m := by
  have : l.val ≠ m.val := fun e => h (Fin.ext e)
  simp [State.pulse, this]

/-- Changing a record never makes or empties one. -/
theorem State.record_modPart_isSome (p q : PocketNo) (f : Part → Part) :
    ((s.modPart p f).record q).isSome = (s.record q).isSome := by
  unfold State.modPart
  split
  · rfl
  · next r h =>
    by_cases e : p = q
    · subst e; simp [h]
    · rw [State.record_setRecord_ne s e]

/-! ### `setEntries`: what is left of a port's outstanding list (R47, R57) -/

variable (m : MeterPort) (es : List Outstanding)

@[simp] theorem MeterPort.setEntries_state : (m.setEntries es).state = m.state := rfl
@[simp] theorem MeterPort.setEntries_seq : (m.setEntries es).seq = m.seq := rfl
@[simp] theorem MeterPort.setEntries_entries : (m.setEntries es).entries = es := rfl
@[simp] theorem MeterPort.setEntries_held : (m.setEntries es).held = m.held := rfl
@[simp] theorem MeterPort.setEntries_timeoutMs : (m.setEntries es).timeoutMs = m.timeoutMs := rfl
@[simp] theorem MeterPort.setEntries_timer : (m.setEntries es).timer =
    if es = [] then none else if es.head? = m.entries.head? then m.timer else some m.timeoutMs := rfl
@[simp] theorem MeterPort.setEntries_txSending : (m.setEntries es).txSending = m.txSending := rfl
@[simp] theorem MeterPort.setEntries_txQueue : (m.setEntries es).txQueue =
    m.txQueue.filter fun f => es.any fun e => e.seq == f.seq && e.pocket == f.pocket := rfl
@[simp] theorem MeterPort.setEntries_rx : (m.setEntries es).rx = m.rx := rfl
@[simp] theorem MeterPort.setEntries_counts : (m.setEntries es).counts = m.counts := rfl

end Sys2Proof.Machine
end

