-- ==== Sys2Proof/Laws/Ops.lean ====
section
/-! SUPPORT. One lemma per shared operation that says which parts of the state it may write: the state after it is the
state before it with only those parts replaced. -/

namespace Sys2Proof.Machine

/-! ## Bins and pulses -/

/-- The drain test writes bins and attention flags only (R119). -/
theorem drainTest_frame (s : State) (b : SortBin) :
    drainTest s b =
      { s with bins := (drainTest s b).bins, svl := { s.svl with attention := (drainTest s b).svl.attention } } := by
  unfold drainTest; split <;> rfl

/-- What the drain test can do: nothing, or the bin's entry into EXCHANGE with SWAP_READY (R119). -/
theorem drainTest_cases (s : State) (b : SortBin) :
    drainTest s b = s ∨
      ((s.bin b).state = .draining ∧ (s.bin b).reserved = 0 ∧ pulseRunning s b = false ∧
        drainTest s b = (s.setBin b { s.bin b with state := .exchange }).raise .swapReady) := by
  unfold drainTest
  split
  · next h => exact .inr ⟨h.1, h.2.1, h.2.2, rfl⟩
  · exact .inl rfl

/-- A grant writes bins and attention flags only (R111, R112). -/
theorem grant_frame (s : State) (b : SortBin) :
    grant s b = { s with bins := (grant s b).bins, svl := { s.svl with attention := (grant s b).svl.attention } } := by
  unfold grant; dsimp only; split <;> rfl

/-- A reservation is granted exactly when the bin grants it, and then the state is the one after the grant (R111). -/
theorem reserve_eq_some {s t : State} {b : SortBin} {o : Bool} :
    reserve s b o = some t ↔ (s.bin b).grants o = true ∧ t = grant s b := by
  unfold reserve
  split
  · next h => exact ⟨fun e => ⟨h, (Option.some.inj e).symm⟩, fun e => by rw [e.2]⟩
  · next h => exact ⟨fun e => (nomatch e), fun e => absurd e.1 h⟩

/-- A refused reservation (R111). -/
theorem reserve_eq_none {s : State} {b : SortBin} {o : Bool} :
    reserve s b o = none ↔ (s.bin b).grants o = false := by
  unfold reserve; split <;> simp_all

/-- A release writes bins and attention flags only (R115). -/
theorem release_frame (s : State) (b : SortBin) :
    release s b = { s with bins := (release s b).bins, svl := { s.svl with attention := (release s b).svl.attention } } := by
  unfold release; rw [drainTest_frame]; rfl

/-- A fire report writes bins and attention flags only (R114). -/
theorem fireReport_frame (s : State) (b : SortBin) :
    fireReport s b =
      { s with bins := (fireReport s b).bins, svl := { s.svl with attention := (fireReport s b).svl.attention } } := by
  unfold fireReport; rw [drainTest_frame]; rfl

/-- The end of a pulse writes timers, bins and attention flags only (R134, R135). -/
theorem endPulse_frame (s : State) (l : Line) :
    endPulse s l =
      { s with
        gates := (endPulse s l).gates, bins := (endPulse s l).bins,
        svl := { s.svl with attention := (endPulse s l).svl.attention } } := by
  unfold endPulse
  split
  · split
    · rfl
    · rw [drainTest_frame]; rfl
  · rfl

/-! ## Records, entries, the hold list -/

/-- Changing a record writes the records only. -/
theorem modPart_frame (s : State) (p : PocketNo) (f : Part → Part) :
    s.modPart p f = { s with ptk := { s.ptk with records := (s.modPart p f).ptk.records } } := by
  unfold State.modPart; split <;> rfl

/-- Changing an occupied record. -/
theorem modPart_of_some {s : State} {p : PocketNo} {r : Part} (h : s.record p = some r) (f : Part → Part) :
    s.modPart p f = s.setRecord p (some (f r)) := by
  unfold State.modPart; rw [h]

/-- Changing an EMPTY pocket's record does nothing. -/
theorem modPart_of_none {s : State} {p : PocketNo} (h : s.record p = none) (f : Part → Part) : s.modPart p f = s := by
  unfold State.modPart; rw [h]

/-- An expired entry leaves its port's list, and nothing but that port changes (R55). -/
theorem expireEntry_frame (s : State) (i : PortId) (p : PocketNo) :
    expireEntry s i p = { s with portA := (expireEntry s i p).portA, portB := (expireEntry s i p).portB } := by
  unfold expireEntry; split
  · rfl
  · cases i <;> rfl

/-- A lost entry changes its port and the records (R56). -/
theorem loseEntry_frame (s : State) (i : PortId) (p : PocketNo) :
    loseEntry s i p =
      { s with
        ptk := { s.ptk with records := (loseEntry s i p).ptk.records },
        portA := (loseEntry s i p).portA, portB := (loseEntry s i p).portB } := by
  unfold loseEntry
  split
  · rfl
  · rw [modPart_frame]; cases i <;> rfl

/-- Losing a pocket's entries changes the ports and the records (R7, R8). -/
theorem loseEntries_frame (s : State) (p : PocketNo) :
    loseEntries s p =
      { s with
        ptk := { s.ptk with records := (loseEntries s p).ptk.records },
        portA := (loseEntries s p).portA, portB := (loseEntries s p).portB } := by
  unfold loseEntries; rw [loseEntry_frame]; rw [loseEntry_frame s .a p]

/-- The hand-offs of voiding and marking change the records, the ports, the bins, the hold list and attention flags (R7, R8). -/
theorem handOff_frame (s : State) (p : PocketNo) (st : PartState) :
    handOff s p st =
      { s with
        ptk := { s.ptk with records := (handOff s p st).ptk.records },
        portA := (handOff s p st).portA, portB := (handOff s p st).portB, bins := (handOff s p st).bins,
        svl := { s.svl with attention := (handOff s p st).svl.attention, hold := (handOff s p st).svl.hold } } := by
  unfold handOff
  split
  · rw [release_frame]
  · rfl
  · rw [loseEntries_frame]
  · rfl

/-- What voiding may write (R7). -/
theorem voidPocket_frame (s : State) (p : PocketNo) :
    voidPocket s p =
      { s with
        ptk := { s.ptk with records := (voidPocket s p).ptk.records },
        portA := (voidPocket s p).portA, portB := (voidPocket s p).portB, bins := (voidPocket s p).bins,
        svl := { s.svl with attention := (voidPocket s p).svl.attention, hold := (voidPocket s p).svl.hold } } := by
  unfold voidPocket
  split
  · rfl
  · split
    · rfl
    · rw [modPart_frame, handOff_frame]

/-- What marking for recirculation may write (R8). -/
theorem recircPocket_frame (s : State) (p : PocketNo) :
    recircPocket s p =
      { s with
        ptk := { s.ptk with records := (recircPocket s p).ptk.records },
        portA := (recircPocket s p).portA, portB := (recircPocket s p).portB, bins := (recircPocket s p).bins,
        svl := { s.svl with attention := (recircPocket s p).svl.attention, hold := (recircPocket s p).svl.hold } } := by
  unfold recircPocket
  split
  · rfl
  · rw [modPart_frame, handOff_frame]

/-- A departure writes the banks and attention flags only (R6, R94). -/
theorem departure_frame (s : State) (k : Option BankId) :
    departure s k =
      { s with
        bankA := (departure s k).bankA, bankB := (departure s k).bankB,
        svl := { s.svl with attention := (departure s k).svl.attention } } := by
  unfold departure
  split
  · rfl
  · next k => dsimp only; split <;> cases k <;> rfl

/-- The completion test writes the action complete flag only (R162). -/
theorem completionTest_frame (s : State) :
    completionTest s = { s with trc := { s.trc with complete := (completionTest s).trc.complete } } := by
  unfold completionTest; split <;> rfl

/-- What emptying a record may write (R6, R94, R162). -/
theorem emptyPocket_frame (s : State) (p : PocketNo) :
    emptyPocket s p =
      { s with
        ptk := { s.ptk with records := (emptyPocket s p).ptk.records },
        bankA := (emptyPocket s p).bankA, bankB := (emptyPocket s p).bankB,
        trc := { s.trc with complete := (emptyPocket s p).trc.complete },
        svl := { s.svl with attention := (emptyPocket s p).svl.attention } } := by
  unfold emptyPocket
  split
  · rfl
  · rw [completionTest_frame, departure_frame]; rfl

/-! ## The trip trigger -/

/-- What the trip action may write for one pocket (R158 to R161). -/
theorem tripPocket_frame (a : TripAction) (s : State) (p : PocketNo) :
    tripPocket a s p =
      { s with
        ptk := { s.ptk with records := (tripPocket a s p).ptk.records },
        portA := (tripPocket a s p).portA, portB := (tripPocket a s p).portB, bins := (tripPocket a s p).bins,
        svl := { s.svl with attention := (tripPocket a s p).svl.attention, hold := (tripPocket a s p).svl.hold } } := by
  unfold tripPocket
  split
  · rfl
  · split <;> first | rfl | rw [voidPocket_frame] | rw [recircPocket_frame]

/-- A fold of steps that each write only the parts of `voidPocket_frame` writes only those parts. -/
theorem foldl_pocket_frame (f : State → PocketNo → State)
    (hf : ∀ s p, f s p =
      { s with
        ptk := { s.ptk with records := (f s p).ptk.records },
        portA := (f s p).portA, portB := (f s p).portB, bins := (f s p).bins,
        svl := { s.svl with attention := (f s p).svl.attention, hold := (f s p).svl.hold } })
    (ps : List PocketNo) (s : State) :
    ps.foldl f s =
      { s with
        ptk := { s.ptk with records := (ps.foldl f s).ptk.records },
        portA := (ps.foldl f s).portA, portB := (ps.foldl f s).portB, bins := (ps.foldl f s).bins,
        svl := { s.svl with attention := (ps.foldl f s).svl.attention, hold := (ps.foldl f s).svl.hold } } := by
  induction ps generalizing s with
  | nil => rfl
  | cons p ps ih =>
    rw [List.foldl_cons, ih (f s p)]
    rw [hf s p]

/-- What the trip action may write (R158). -/
theorem tripAction_frame (s : State) :
    tripAction s =
      { s with
        ptk := { s.ptk with records := (tripAction s).ptk.records },
        portA := (tripAction s).portA, portB := (tripAction s).portB, bins := (tripAction s).bins,
        svl := { s.svl with attention := (tripAction s).svl.attention, hold := (tripAction s).svl.hold } } :=
  foldl_pocket_frame _ (tripPocket_frame _) _ _

/-- What a trip trigger may write: the operating state, the records, the ports, the bins, the trip controller but for its
configuration, the hold list and attention flags (R156). -/
theorem tripTrigger_frame (s : State) (c : Cause) :
    tripTrigger s c =
      { s with
        ptk := { s.ptk with records := (tripTrigger s c).ptk.records, opState := .tripped },
        portA := (tripTrigger s c).portA, portB := (tripTrigger s c).portB, bins := (tripTrigger s c).bins,
        trc := { (tripTrigger s c).trc with config := s.trc.config },
        svl :=
          { s.svl with attention := (tripTrigger s c).svl.attention, hold := (tripTrigger s c).svl.hold } } := by
  unfold tripTrigger
  dsimp only
  rw [tripAction_frame]
  rfl

/-- The trip controller after a trigger (R156, steps 2 to 4; R162). -/
theorem tripTrigger_trc (s : State) (c : Cause) :
    (tripTrigger s c).trc =
      { config := s.trc.config, causes := s.trc.causes.add c, count := satAdd s.trc.count 1,
        record := (tripEntry s c).trc.record, complete := completeAtTrigger (tripAction (tripEntry s c)) } := by
  unfold tripTrigger
  dsimp only
  rw [State.modTrc_trc, tripAction_frame]
  rfl

/-! ## The fires and the sweep -/

/-- A started pulse writes timers, bins and attention flags only (R128). -/
theorem startPulse_frame (s : State) (l : Line) :
    startPulse s l =
      { s with
        gates := (startPulse s l).gates, bins := (startPulse s l).bins,
        svl := { s.svl with attention := (startPulse s l).svl.attention } } := by
  unfold startPulse; rw [endPulse_frame]; rfl

/-- An exit report writes the banks only (R105). -/
theorem exitReport_frame (s : State) (r : Part) (l : Line) :
    exitReport s r l = { s with bankA := (exitReport s r l).bankA, bankB := (exitReport s r l).bankB } := by
  unfold exitReport
  rcases r.tag with _ | (_ | _) <;> rfl

/-! ## Requests -/

/-- What a request's arrival can do: nothing where the link takes no request, BAD_LENGTH where the body does not fit, and
else what its owner answers (R171). -/
theorem request_cases (op : Byte) (b : Body) (own : List Byte → State → State × Reply) (s : State) :
    (takesRequest s = false ∧ request op b own s = s) ∨
      (takesRequest s = true ∧ fitsLength op b = false ∧ request op b own s = s.answer op (bare .badLength)) ∨
      (takesRequest s = true ∧ fitsLength op b = true ∧
        request op b own s = (own (b.bytes.take b.len.toNat) s).1.answer op (own (b.bytes.take b.len.toNat) s).2) := by
  unfold request
  by_cases h : takesRequest s = true <;> by_cases g : fitsLength op b = true <;> simp_all

end Sys2Proof.Machine
end

