-- ==== Sys2Proof/Laws/Events.lean ====
section
/-! SUPPORT. What the expiries, the bits of the links and the end of a transaction can do: one lemma per shared operation. -/

namespace Sys2Proof.Machine

/-! ## Pulses -/

/-- A pulse that has run its width ends at its expiry (R134). -/
theorem expirePulse_of_run {s : State} {l : Line} {p : Pulse} (h : s.pulse l = some p) (w : p.width ≤ p.elapsed) :
    expirePulse s l = endPulse s l := by
  unfold expirePulse; rw [h]; exact if_pos w

/-- A pulse short of its width goes on (R134). -/
theorem expirePulse_of_short {s : State} {l : Line} {p : Pulse} (h : s.pulse l = some p) (w : p.elapsed < p.width) :
    expirePulse s l = s := by
  unfold expirePulse; rw [h]; exact if_neg (Nat.not_le.mpr w)

/-- An idle line has no expiry (R134). -/
theorem expirePulse_of_idle {s : State} {l : Line} (h : s.pulse l = none) : expirePulse s l = s := by
  unfold expirePulse; rw [h]

/-- A pulse's expiry writes timers, bins and attention flags only (R134, R135). -/
theorem expirePulse_frame (s : State) (l : Line) :
    expirePulse s l =
      { s with
        gates := (expirePulse s l).gates, bins := (expirePulse s l).bins,
        svl := { s.svl with attention := (expirePulse s l).svl.attention } } := by
  unfold expirePulse
  split
  · split
    · rw [endPulse_frame]
    · rfl
  · rfl

/-! ## Meter timers -/

/-- Writing LOST results changes the records only (R58). -/
theorem writeLost_frame (s : State) (id : PortId) (es : List Outstanding) :
    writeLost s id es = { s with ptk := { s.ptk with records := (writeLost s id es).ptk.records } } := by
  unfold writeLost
  induction es generalizing s with
  | nil => rfl
  | cons e es ih =>
    rw [List.foldl_cons, ih]
    rw [modPart_frame s e.pocket]

/-- What a port's fault may write: what a trip trigger may, and METER_FAULT (R58). -/
theorem meterFault_frame (s : State) (id : PortId) :
    meterFault s id =
      { s with
        ptk := { s.ptk with records := (meterFault s id).ptk.records, opState := (meterFault s id).ptk.opState },
        portA := (meterFault s id).portA, portB := (meterFault s id).portB, bins := (meterFault s id).bins,
        trc := { (meterFault s id).trc with config := s.trc.config },
        svl :=
          { s.svl with attention := (meterFault s id).svl.attention, hold := (meterFault s id).svl.hold } } := by
  unfold meterFault
  dsimp only
  split
  · rw [tripTrigger_frame]; rw [writeLost_frame]; cases id <;> rfl
  · rw [writeLost_frame]; cases id <;> rfl

/-- Whatever the state before the expiries has and every fault of a port found by the test keeps, the state after them has. -/
theorem expireWhere_induct {P : State → Prop} {test : State → PortId → Bool}
    (step : ∀ t id, test t id = true → P t → P (meterFault t id)) {s : State} (h : P s) : P (expireWhere test s) := by
  have one : ∀ t id, P t → P (if test t id then meterFault t id else t) := by
    intro t id ht
    split
    · next g => exact step t id g ht
    · exact ht
  unfold expireWhere
  dsimp only
  split
  · exact one _ _ (one _ _ h)
  · exact one _ _ (one _ _ (one _ _ h))

/-- Where the test finds no timer, nothing expires. -/
theorem expireWhere_of_none {test : State → PortId → Bool} {s : State} (a : test s .a = false) (b : test s .b = false) :
    expireWhere test s = s := by
  simp [expireWhere, a, b]

/-- The expiries write what a port's fault may write (R58). -/
theorem expireWhere_frame (test : State → PortId → Bool) (s : State) :
    expireWhere test s =
      { s with
        ptk :=
          { s.ptk with records := (expireWhere test s).ptk.records, opState := (expireWhere test s).ptk.opState },
        portA := (expireWhere test s).portA, portB := (expireWhere test s).portB, bins := (expireWhere test s).bins,
        trc := { (expireWhere test s).trc with config := s.trc.config },
        svl :=
          { s.svl with
            attention := (expireWhere test s).svl.attention, hold := (expireWhere test s).svl.hold } } := by
  refine expireWhere_induct (P := fun t => t =
    { s with
      ptk := { s.ptk with records := t.ptk.records, opState := t.ptk.opState },
      portA := t.portA, portB := t.portB, bins := t.bins, trc := { t.trc with config := s.trc.config },
      svl := { s.svl with attention := t.svl.attention, hold := t.svl.hold } }) ?_ rfl
  intro t id _ h
  rw [meterFault_frame t id, h]

/-- An event that makes no other entry the oldest is followed by no expiry (R57). -/
theorem settleTimers_of_unmoved {before after : State}
    (h : ∀ id, (after.port id).entries.head? = (before.port id).entries.head?) : settleTimers before after = after := by
  unfold settleTimers
  apply expireWhere_of_none <;> simp [movedOn, h]

/-- A timer short of its value does not expire (R57). -/
theorem expireDue_of_not_due {s : State} {id : PortId} (h : (s.port id).due = false) : expireDue s id = s := by
  unfold expireDue; rw [h]; rfl

/-! ## Bits -/

/-- A byte's bits make the byte again (R170). -/
theorem byteOfBits_bitsOf (b : Byte) : byteOfBits (bitsOf b) = b := by
  revert b; decide

/-- Eight bits make the first byte of a transaction, and the rest goes on (R170). -/
theorem bytesOfBits_bitsOf_append (b : Byte) (rest : List Bool) :
    bytesOfBits (bitsOf b ++ rest) = b :: bytesOfBits rest :=
  congrArg (· :: bytesOfBits rest) (byteOfBits_bitsOf b)

/-- A receiver takes the byte that was sent, whatever its stop bit (R48, R184). -/
theorem byteOfLevels_charLevels (b : Byte) (stop : Bool) : byteOfLevels (charLevels b stop) = b := by
  revert b stop; decide

/-! ## The end of a transaction -/

/-- An opcode has an owner exactly where Table 10.9 lists it (R187). -/
theorem ownerOf_isSome (op : Byte) : (ownerOf op).isSome = (requestLength op).isSome := by
  revert op; decide

/-- What the bytes of a transaction can ask: nothing, UNKNOWN, BAD_LENGTH, or a request's arrival at its owner (R171). -/
theorem serveBytes_cases (op : Byte) (rest : List Byte) (s : State) :
    (op = 0 ∧ serveBytes (op :: rest) s = s) ∨
      (op ≠ 0 ∧ ownerOf op = none ∧ serveBytes (op :: rest) s = s.answer op (bare .unknown)) ∨
      (op ≠ 0 ∧ (ownerOf op).isSome = true ∧ arrivedBody rest = none ∧
        serveBytes (op :: rest) s = s.answer op (bare .badLength)) ∨
      ∃ own b, op ≠ 0 ∧ ownerOf op = some own ∧ arrivedBody rest = some b ∧
        serveBytes (op :: rest) s = settleTimers s (request op b own s) := by
  by_cases h : op = 0
  · exact .inl ⟨h, by simp [serveBytes, h]⟩
  · rcases ho : ownerOf op with _ | own
    · exact .inr (.inl ⟨h, rfl, by simp only [serveBytes, if_neg h, ho]⟩)
    · rcases hb : arrivedBody rest with _ | b
      · exact .inr (.inr (.inl ⟨h, rfl, rfl, by simp only [serveBytes, if_neg h, ho, hb]⟩))
      · exact .inr (.inr (.inr ⟨own, b, h, rfl, rfl, by simp only [serveBytes, if_neg h, ho, hb]⟩))

end Sys2Proof.Machine
end

