-- ==== Sys2Proof/WellFormed.lean ====
section
/-! DEFINITION. Which commands a sender that keeps to the ports can send. -/

namespace Sys2Proof

/-- A body as a transaction delivers it: L payload bytes when L is 0 to 62, and none needed above (R171). -/
def Body.wf (b : Body) : Bool :=
  if b.len.toNat ≤ 62 then b.bytes.length == b.len.toNat else b.bytes.isEmpty

/-- The levels of one byte on a meter link's line: ten bit times, the start bit at the space level; the stop bit may stand
at either level (R48, R184). -/
def levelsWf (levels : List Bool) : Bool := levels.length == 10 && levels.head? == some false

/-- Well-formed commands. `exec` gives every command a meaning; this is what the spec's ports can produce. -/
def Instr.wf : Instr → Bool
  | .indexArrival _ _ _ order => decide order.Nodup
  | .periodWrap => true
  | .loadArrival _ => true
  | .overdueEpisodeStart => true
  | .safeActive => true
  | .actionComplete => true
  | .drainComplete _ => true
  | .bankReturnsToStandby _ => true
  | .frameArrival _ frame => frame.length == 13 && frame.head? == some 0xA5#8
  | .triggerFrameSent _ => true
  | .meterTimeout _ => true
  | .gatePulseExpiry _ => true
  | .powerOnReset => true
  | .nreset => true
  | .resetRelease _ => true
  | .transactionStart => true
  | .transactionEnd received clocked => received.length == clocked
  | .unknownOpcode op b => op != 0 && (Machine.requestLength op).isNone && b.wf
  | .nop _ => true
  | .identify b => b.wf
  | .readAttention b => b.wf
  | .readHold b => b.wf
  | .verdict b => b.wf
  | .setRing b => b.wf
  | .start b => b.wf
  | .stop b => b.wf
  | .clearTrack b => b.wf
  | .readPocket b => b.wf
  | .readDeviceCounts b => b.wf
  | .setAux b => b.wf
  | .setMeter b => b.wf
  | .restoreMeter b => b.wf
  | .readMeter b => b.wf
  | .writeLot b => b.wf
  | .writeEntry b => b.wf
  | .writeClass b => b.wf
  | .copyBank b => b.wf
  | .activate b => b.wf
  | .readBank b => b.wf
  | .readLotCounts b => b.wf
  | .setBin b => b.wf
  | .readBin b => b.wf
  | .swapBegin b => b.wf
  | .swapDone b => b.wf
  | .setDrift b => b.wf
  | .readDrift b => b.wf
  | .clearDrift b => b.wf
  | .setTrip b => b.wf
  | .trip b => b.wf
  | .readTrip b => b.wf
  | .clearTrip b => b.wf
  | .safeInactive => true
  | .meterByteReceived _ levels => levelsWf levels
  | .gpolPinChange _ => true

end Sys2Proof
end

