-- ==== Sys2Proof/Tests/Slice0.lean ====
section
/-! SUPPORT. Tests on small states, each about one step, with expected values from the spec's tables and worked examples;
a smoke test of every well-formedness check; and for every obligation with hypotheses a witness that meets them. -/

namespace Sys2Proof.Tests

open Sys2Proof.Machine

-- the theorems are checked one after another, for in parallel their threads exceed the memory limit of the check
set_option Elab.async false

/-! ## Helpers -/

/-- The state after reset. -/
abbrev s0 : State := State.reset

/-- The state after a command. -/
def after (c : Instr) (s : State) : State :=
  match exec c s with
  | .next t => t
  | .fault f => nomatch f
  | .refused _ => s

/-- A product record tagged A. -/
def part (st : PartState) : Part := ⟨st, 7, some .a, .product, 0, some .pass, none, none, none, .ungraded⟩

/-- The state after reset with a record at an offset. -/
def onRing (k : Nat) (r : Part) : State := s0.setRecord (pocketAt s0 k) (some r)

/-- A state with reset held. -/
def heldState : State := { s0 with ttp := { s0.ttp with held := true } }

/-- The operating state set. -/
def inState (o : OpState) : State := s0.setOpState o

/-- Bank A in a state, with one part on the ring. -/
def bankAIn (st : BankState) : State := s0.modBank .a fun k => { k with state := st, onRing := 1 }

/-- Sort bin 1 in a state with room for more, filled 1 and reserved 1. -/
def bin1 (st : BinState) : State := s0.setBin 0 ⟨st, 5, 1, 1, 1, 0⟩

/-- Sort bin 1 with given counts. -/
def binWith (st : BinState) (capacity margin filled reserved : Nat) : State :=
  s0.setBin 0 ⟨st, capacity, margin, filled, reserved, 11⟩

/-- Port A with entries for pockets 1 and 2, sequences 4 and 5, and a running timer. -/
def portABusy : State :=
  s0.modPort .a fun m => { m with entries := [⟨4, 1, 0⟩, ⟨5, 2, 0⟩], timer := some 20, seq := 6 }

/-- Port A with entries for pockets 1 and 2 whose timer has reached its 20 ms. -/
def portADue : State :=
  s0.modPort .a fun m => { m with entries := [⟨4, 1, 200⟩, ⟨5, 2, 150⟩], timer := some 20, seq := 6 }

/-- Port A with a MEASURING pocket at offset 0 as its oldest entry, triggered under 200 ms, and a younger entry already past
the 20 ms now in force. -/
def portALate : State :=
  (onRing 0 (part .measuring)).modPort .a fun m => { m with entries := [⟨4, 0, 300⟩, ⟨5, 2, 250⟩], timer := some 200 }

/-- In RUN with bank A ACTIVE, and one product load short of an overdue episode. -/
def nearOverdue : State :=
  ((bankAIn .active).setOpState .run).modDrm fun d =>
    { d with overdueCount := 5, config := { d.config with interval := 5 } }

/-- The bits of bytes on SDI (R170). -/
def bitsFor (bs : List Byte) : List Bool := bs.flatMap bitsOf

/-- The lot of section 4.9, as WRITE_LOT bytes for bank A (Table 10.10). -/
def lotBytes49 : List Byte :=
  [1, 0x4C, 0x24, 0x30, 0, 0, 25, 0x09, 0xC4, 0, 20, 1, 0, 50, 0, 0, 0, 120, 0, 5, 15]

/-- The lot of section 4.9 and the reference parameters of section 4.11. -/
def lot49 : Lot :=
  { nominal := 4990000, exponent := 0, tcr := 25, tref := 2500, guardBand := 20, verify := true, agreement := 50,
    retestLimit := 0, refCertified := 120, refTcr := 5, refBin := 14 }

/-- The ring of section 1.7 as SET_RING bytes. -/
def ringBytes12 : List Byte := [12, 1, 2, 3, 4, 5, 6] ++ List.replicate 13 10 ++ [11, 30]

/-! ## Well-formedness: an ill-formed command for each check -/

theorem test_wf_body_short : (Instr.setMeter ⟨2, [1]⟩).wf = false := by decide +kernel
theorem test_wf_body_long_length : (Instr.start ⟨63, [0]⟩).wf = false := by decide +kernel
theorem test_wf_order_repeats : (Instr.indexArrival false false false [.gates, .gates]).wf = false := by decide +kernel
theorem test_wf_frame_short : (Instr.frameArrival .a [0xA5]).wf = false := by decide +kernel
theorem test_wf_frame_start : (Instr.frameArrival .a (List.replicate 13 0)).wf = false := by decide +kernel
theorem test_wf_end_counts : (Instr.transactionEnd (bitsFor [0x11]) 9).wf = false := by decide +kernel
theorem test_wf_levels_short : (Instr.meterByteReceived .a [false, true]).wf = false := by decide +kernel
theorem test_wf_levels_start : (Instr.meterByteReceived .a (List.replicate 10 true)).wf = false := by decide +kernel
theorem test_wf_unknown_nop : (Instr.unknownOpcode 0 (bodyOf [])).wf = false := by decide +kernel
theorem test_wf_unknown_known : (Instr.unknownOpcode 0x11 (bodyOf [])).wf = false := by decide +kernel
theorem test_wf_accepts : (Instr.setMeter (bodyOf [1, 20])).wf = true ∧
    (Instr.transactionEnd (bitsFor [0x20, 2, 1]) 24).wf = true ∧
    (Instr.meterByteReceived .a (charLevels 0xA5 false)).wf = true ∧ (Instr.unknownOpcode 0x77 (bodyOf [9])).wf = true := by decide +kernel

/-- No row of the table gives bits, so no word spells a command. -/
theorem test_no_word_decodes : decodeTableWord 8 0x11 = none ∧ (s0.withFetchWord 8 0x11).pending = [] := by decide +kernel

/-! ## Arithmetic (Tables 4.2 and 4.9 to 4.11) -/

theorem test_rounding : roundDiv 1000000 2000000 = 1 ∧ roundDiv (-1000000) 2000000 = -1 ∧ roundDiv 16250 100 = 163 ∧
    roundDiv (-16250) 100 = -163 ∧ roundDiv 465 2 = 233 ∧ roundDiv (-1) 2 = -1 ∧ roundDiv 1870000000 4990000 = 375 := by
  decide +kernel

/-- Cases 1 to 10 of section 4.10. -/
theorem test_stage1_cases :
    let lot := fun (n : Nat) (f : Int) => { Lot.powerOn with nominal := n, exponent := f }
    stage1 9999990 2 (lot 1000000 3) = .value (-1) ∧ stage1 1200000 4 (lot 1000000 3) = .over ∧
    stage1 2000001 0 (lot 2000000 0) = .value 1 ∧ stage1 1999999 0 (lot 2000000 0) = .value (-1) ∧
    stage1 1000200 3 (lot 9990000 2) = .value 1201 ∧ stage1 1999999 0 (lot 1000000 0) = .value 999999 ∧
    stage1 2000000 0 (lot 1000000 0) = .over ∧ stage1 1000000 (-1) (lot 9999999 0) = .value (-990000) ∧
    stage1 4991870 (-2) (lot 4990000 0) = .under ∧ stage1 4991870 2 (lot 4990000 0) = .over := by decide +kernel

/-- Cases 11 to 16 of section 4.10. -/
theorem test_stages2to4_cases :
    clampDev (stage2 375 3150 2500 (-25) - 0) = ⟨538, false⟩ ∧
    clampDev (stage2 999000 15000 (-4000) (-2000) - 0) = ⟨999999, true⟩ ∧
    clampDev (stage2 (-990000) 15000 (-4000) 2000 - 10000) = ⟨-999999, true⟩ ∧
    clampDev (999995 - -10) = ⟨999999, true⟩ ∧ clampDev (999995 - 10) = ⟨999985, false⟩ ∧
    clampDev (stage2 40 2505 2500 10 - 0) = ⟨39, false⟩ := by decide +kernel

/-- Section 4.9: D = 232, outside entries 0 and 1 under the guard of 32, inside entry 2. -/
theorem test_worked_grading :
    productOutcome lot49 ⟨-18, -30⟩ ⟨4991870, 0, 3150⟩ (some ⟨4991902, 0, 3160⟩) = .value ⟨232, false⟩ ∧
    effectiveGuard lot49 ⟨-18, -30⟩ = 32 ∧
    (⟨true, -250, 250, 0, []⟩ : WindowEntry).hits 32 232 = false ∧
    (⟨true, -500, 500, 0, []⟩ : WindowEntry).hits 32 232 = true := by decide +kernel

/-- Section 4.11: the reference deviation 136 and the drift sample +16. -/
theorem test_worked_reference : referenceOutcome lot49 ⟨4990780, 0, 2900⟩ = some (⟨136, false⟩, 16) := by decide +kernel

/-- The check value of R185, and a TRIGGER frame laid out by Table 10.5. -/
theorem test_crc_and_trigger :
    crc16 [0x31, 0x32, 0x33, 0x34, 0x35, 0x36, 0x37, 0x38, 0x39] = 0x29B1#16 ∧
    (⟨7, 9, -1⟩ : TriggerFrame).bytes.take 5 = [0xA5, 0x54, 7, 9, 0xFF] := by decide +kernel

/-! ## Commands -/

/-- IDENTIFY after power-on (R175): vendor 0x0AB5, part 0x0041, revision 1, one port, GPOL LOW, POWER_ON. -/
theorem test_identify : (after (.identify (bodyOf [])) s0).svl.pending =
    ⟨0x01, .ok, [0x0A, 0xB5, 0x00, 0x41, 1, 1, 0, 0]⟩ := by decide +kernel

/-- START before ACTIVATE is refused with CONDITION (Table 11.5). -/
theorem test_start_before_activate : (after (.start (bodyOf [])) s0).svl.pending = ⟨0x11, .condition, []⟩ ∧
    (after (.start (bodyOf [])) s0).ptk.opState = .idle := by decide +kernel

theorem test_stop_in_idle : (after (.stop (bodyOf [])) s0).svl.pending = ⟨0x12, .ok, []⟩ := by decide +kernel

/-- SET_RING of Table 11.1, step 2. -/
theorem test_set_ring : (after (.setRing (bodyOf ringBytes12)) s0).ptk.ring =
    ⟨12, 1, 2, 3, 4, #v[5, 6, 10, 10, 10, 10, 10, 10, 10, 10, 10, 10, 10, 10, 10], 11, 30⟩ := by decide +kernel

/-- WRITE_LOT of Table 11.1, step 3. -/
theorem test_write_lot : (after (.writeLot (bodyOf lotBytes49)) s0).bankA.lot = lot49 := by decide +kernel

/-- WRITE_ENTRY of an entry from -500 to +500, bin 3 with spill bin 4; the two bytes beyond the count are not checked
(R188). -/
theorem test_write_entry : (after (.writeEntry (bodyOf [1, 1, 1, 0xFF, 0xFE, 0x0C, 0, 0x01, 0xF4, 3, 1, 4, 99, 0])) s0).bankA.entries[1] =
    ⟨true, -500, 500, 2, [3]⟩ := by decide +kernel

/-- WRITE_CLASS of EXHAUSTED as BIN 6 with override. -/
theorem test_write_class : (after (.writeClass (bodyOf [2, 8, 0, 6, 1, 0])) s0).bankB.actions[8] =
    ⟨.bin, .bin 5, true, false⟩ := by decide +kernel

/-- COPY_BANK with the other bank STANDBY is refused with CONDITION (R89). -/
theorem test_copy_bank : (after (.copyBank (bodyOf [2])) s0).svl.pending.status = .condition := by decide +kernel

/-- ACTIVATE of a bank without a valid entry fails check 1 (R92). -/
theorem test_activate_check1 : (after (.activate (bodyOf [1])) s0).svl.pending = ⟨0x34, .invalidSet, [1]⟩ := by decide +kernel

/-- SET_BIN 1 with capacity 1,000 opens the bin and answers its record (Table 11.1, step 4). -/
theorem test_set_bin : (after (.setBin (bodyOf [1, 0x03, 0xE8, 0, 0])) s0).svl.pending =
    ⟨0x40, .ok, [1, 1, 0x03, 0xE8, 0, 0, 0, 0, 0, 0, 0, 0]⟩ := by decide +kernel

/-- SWAP_BEGIN on a FULL bin with parts reserved (Table 11.2, step 2). -/
theorem test_swap_begin : (after (.swapBegin (bodyOf [1])) (binWith .full 100 0 98 2)).svl.pending =
    ⟨0x42, .ok, [3, 2]⟩ := by decide +kernel

/-- SWAP_DONE answers the old box's count and the new box sequence (Table 11.2, step 8). -/
theorem test_swap_done : (after (.swapDone (bodyOf [1])) (binWith .exchange 100 0 100 0)).svl.pending =
    ⟨0x43, .ok, [0, 0, 100, 0, 12]⟩ := by decide +kernel

/-- The end of the pulse that held a drained bin makes it EXCHANGE (Table 11.2, step 6). -/
theorem test_pulse_expiry :
    let s := (binWith .draining 100 0 100 0).setPulse 1 (some ⟨30, 30⟩)
    ((after (.gatePulseExpiry 1) s).bin 0).state = .exchange ∧
      (after (.gatePulseExpiry 1) s).svl.attention.swapReady = true := by decide +kernel

/-- The expiry of a pulse that has not run its width does nothing: a pulse lasts its width (R134). -/
theorem test_pulse_expiry_early :
    (after (.gatePulseExpiry 1) (s0.setPulse 1 (some ⟨30, 0⟩))).pulse 1 = some ⟨30, 0⟩ := by decide +kernel

/-- A reference load before ACTIVATE is VOID with tag NONE and untracked (Table 11.5). -/
theorem test_reference_before_activate :
    (after (.loadArrival true) s0).record 0 =
      some ⟨.void, 1, none, .reference, 0, none, none, none, none, .ungraded⟩ ∧
    (after (.loadArrival true) s0).ptk.untracked = 1 := by decide +kernel

/-- A reference load in IDLE with a bank ACTIVE is measured (R15). -/
theorem test_reference_admitted :
    ((after (.loadArrival true) (bankAIn .active)).record 0).map Part.state = some .measuring ∧
    (after (.loadArrival true) (bankAIn .active)).bankA.onRing = 2 := by decide +kernel

/-- An index arrival with HOME active and the load pointer not 0 trips with cause SLIP (R11). -/
theorem test_slip : (after (.indexArrival true false false []) s0).ptk.opState = .tripped ∧
    (after (.indexArrival true false false []) s0).trc.causes.slip = true ∧
    (after (.indexArrival true false false []) s0).ptk.loadPointer = 0 := by decide +kernel

/-- The trigger at S2: the record brought to offset 3 is queued with its entry (R44, R45). -/
theorem test_trigger : (after (.indexArrival false false false []) (onRing 2 (part .measuring))).portA.entries.length = 1 := by
  decide +kernel

/-- A sample of +540 against the limit of 500 sets the latch and moves the target (Table 11.4, step 1). -/
theorem test_alarm : (sampleArrival s0 540).drm.latch = true ∧ (sampleArrival s0 540).drm.target = 540 ∧
    (sampleArrival s0 540).trc.causes.drift = true ∧ (sampleArrival s0 540).svl.attention.driftAlarm = true := by decide +kernel

/-- A sample within the hysteresis is recorded and does not move the target (Table 11.1, step 10). -/
theorem test_sample_within : (sampleArrival s0 6).drm.lastSample = some 6 ∧ (sampleArrival s0 6).drm.target = 0 := by
  decide +kernel

/-- The eighth arrival is the period wrap, and with less than a step to go it lands on the target (R143). -/
theorem test_wrap :
    let s := s0.modDrm fun d => { d with target := -3, periodCount := 7 }
    (after .periodWrap s).drm.applied = -3 ∧ (after .periodWrap s).drm.periodCount = 0 ∧
      (after .periodWrap s).ptk.indexCount = 1 := by decide +kernel

/-- One arrival short of the period there is no wrap: a turret that does not index does not slew (R143). -/
theorem test_no_wrap : after .periodWrap (s0.modDrm fun d => { d with target := -3, periodCount := 6 }) =
    s0.modDrm fun d => { d with target := -3, periodCount := 6 } := by decide +kernel

/-- The sixth product load since the sample begins an overdue episode at an interval of 5 (R146). -/
theorem test_overdue : (after .overdueEpisodeStart nearOverdue).svl.attention.refOverdue = true ∧
    (after .overdueEpisodeStart nearOverdue).drm.overdueCount = 6 ∧
    (after .overdueEpisodeStart nearOverdue).ptk.serial = 2 := by decide +kernel

/-- With no load admitted no episode begins, whatever the counter: a paused turret never becomes overdue (R146). -/
theorem test_paused_never_overdue : after .overdueEpisodeStart (nearOverdue.setOpState .idle) =
    nearOverdue.setOpState .idle := by decide +kernel

/-- A timeout of port A loses both entries and trips (R58); a timer short of its value does nothing. -/
theorem test_timeout : (after (.meterTimeout .a) portADue).portA.counts.lost = 2 ∧
    (after (.meterTimeout .a) portADue).trc.causes.meterA = true ∧
    (after (.meterTimeout .a) portADue).portA.state = .faulted ∧
    after (.meterTimeout .a) portABusy = portABusy := by decide +kernel

/-- A load conflict takes the oldest entry, and the new oldest, already past its timeout, expires at once (R56, R57). -/
theorem test_expires_at_once : (after (.loadArrival false) portALate).portA.state = .faulted ∧
    (after (.loadArrival false) portALate).portA.counts.lost = 2 := by decide +kernel

/-- RESTORE_METER on an ONLINE port is refused (R59), and so is SET_METER on the ABSENT port B (R60). -/
theorem test_meter_requests : (after (.restoreMeter (bodyOf [1])) s0).svl.pending.status = .wrongState ∧
    (after (.setMeter (bodyOf [2, 30])) s0).svl.pending.status = .wrongState := by decide +kernel

/-- A noise byte while hunting is dropped; a start byte begins a frame, whatever the level of its stop bit (R48). The levels
of 0xA5 are written out from R184: a start bit, 1 0 1 0 0 1 0 1 from the least significant bit on, a stop bit. -/
theorem test_receiver : (after (.meterByteReceived .a (charLevels 0x11 true)) s0).portA.rx = [] ∧
    (after (.meterByteReceived .a [false, true, false, true, false, false, true, false, true, false]) s0).portA.rx =
      [0xA5] := by decide +kernel

/-- A frame with a wrong CRC is discarded and counted (R49). -/
theorem test_bad_crc : (after (.frameArrival .a (0xA5 :: List.replicate 12 0)) s0).portA.counts.crcErrors = 1 ∧
    (after (.frameArrival .a (0xA5 :: List.replicate 12 0)) s0).portA.rx = [] := by decide +kernel

/-- The transmitter takes the next frame (R47). -/
theorem test_frame_sent :
    (after (.triggerFrameSent .a)
      (s0.modPort .a fun m => { m with txSending := some ⟨1, 1, 0⟩, txQueue := [⟨2, 2, 0⟩] })).portA.txSending =
      some ⟨2, 2, 0⟩ := by decide +kernel

/-- SAFE becoming active trips, and becoming inactive leaves the trip (R30). -/
theorem test_safe : (after .safeActive s0).trc.causes.safe = true ∧
    (after .safeInactive (after .safeActive s0)).ptk.opState = .tripped := by decide +kernel

/-- READ_ATTENTION returns the flags and clears them (R177); TRIP is bit 7 (Table 10.8). -/
theorem test_read_attention : (after (.readAttention (bodyOf [])) (s0.raise .trip)).svl.pending.payload = [0x80] ∧
    (after (.readAttention (bodyOf [])) (s0.raise .trip)).svl.attention = .none := by decide +kernel

/-- READ_HOLD with an empty list answers the count 0 alone (R179). -/
theorem test_read_hold : (after (.readHold (bodyOf [])) s0).svl.pending.payload = [0] := by decide +kernel

/-- VERDICT on a pocket that is not HELD is refused with NOT_HELD (R180). -/
theorem test_verdict_not_held : (after (.verdict (bodyOf [3, 0, 1])) s0).svl.pending =
    ⟨0x04, .notHeld, [3, 21, 0, 0xFF, 0]⟩ := by decide +kernel

/-- CLEAR_DRIFT before any sample is refused with CONDITION (R149). -/
theorem test_clear_drift : (after (.clearDrift (bodyOf [])) s0).svl.pending.status = .condition := by decide +kernel

/-- SET_DRIFT with a period of 0 is refused, and the power-on values are accepted (R151). -/
theorem test_set_drift : (after (.setDrift (bodyOf [4, 0, 0, 10, 1, 0xF4, 0, 0])) s0).svl.pending.status = .badValue ∧
    (after (.setDrift (bodyOf [4, 8, 0, 10, 1, 0xF4, 0, 0])) s0).svl.pending.status = .ok := by decide +kernel

/-- CLEAR_TRIP in IDLE is refused (R165); TRIP trips with COMMAND and an empty ring is complete (R162, R164). -/
theorem test_trip : (after (.clearTrip (bodyOf [])) s0).svl.pending.status = .wrongState ∧
    (after (.trip (bodyOf [])) s0).svl.pending = ⟨0x61, .ok, [0x20, 1]⟩ := by decide +kernel

/-- READ_TRIP marks a captured record READ (R167). -/
theorem test_read_trip : (after (.readTrip (bodyOf [])) (tripTrigger s0 .command)).trc.record =
    .read (snapshot (tripEntry s0 .command) .command) := by decide +kernel

/-- SET_TRIP in IDLE (R168). -/
theorem test_set_trip : (after (.setTrip (bodyOf [2, 0, 1])) s0).trc.config = ⟨.recirculate, false, true⟩ := by decide +kernel

/-- SET_AUX with a function used twice is refused and answers the codes in force (R36). -/
theorem test_set_aux : (after (.setAux (bodyOf [1, 1, 0, 0])) s0).svl.pending = ⟨0x18, .badValue, [1, 2, 4, 0]⟩ := by
  decide +kernel

/-- CLEAR_TRACK empties the ring and counts its parts (R24). -/
theorem test_clear_track : (after (.clearTrack (bodyOf [])) (onRing 4 (part .void))).svl.pending.payload = [1] ∧
    occupiedCount (after (.clearTrack (bodyOf [])) (onRing 4 (part .void))) = 0 := by decide +kernel

/-- NRESET keeps the trip record and the trip count, and POWER_ON_RESET does not (R169). -/
theorem test_resets : (after .nreset (tripTrigger s0 .safe)).trc.count = 1 ∧
    (after .powerOnReset (tripTrigger s0 .safe)).trc.count = 0 ∧
    (after .powerOnReset (tripTrigger s0 .safe)).trc.record = .empty := by decide +kernel

/-- A release with MPORTS high puts port B ONLINE and reports POWER_ON after a power-on reset (R38 to R40). -/
theorem test_release :
    (after (.resetRelease ⟨true, false, false, false, false, false⟩) (after .powerOnReset s0)).portB.state = .online ∧
    (after (.resetRelease ⟨true, false, false, false, false, false⟩) (after .nreset s0)).ttp.restartCause = .resetLine := by
  decide +kernel

/-- While reset is held the gate lines stand at the level of the GPOL pin (R38, Table 2.3). -/
theorem test_gpol : gateLine (after (.gpolPinChange true) (after .nreset s0)) 3 = true := by decide +kernel

/-- A response is delivered in the transaction after its request's (R172). -/
theorem test_transaction :
    (after .transactionStart (after (.transactionEnd (bitsFor [0x11, 0, 0]) 24) (after (.start (bodyOf [])) (after .transactionStart s0)))).svl.outgoing =
      some ⟨0x11, .condition, []⟩ := by decide +kernel

/-- The bits of STOP, written out from R170 and Table 10.9 (0x12, L = 0) with three bits of an incomplete byte, are the
request (R171, R187). -/
theorem test_transaction_request :
    let bits := [false, false, false, true, false, false, true, false, false, false, false, false, false, false, false,
      false, true, true, true]
    let s := after .transactionStart (inState .run)
    (after (.transactionEnd bits 19) s).ptk.opState = .idle ∧
      (after (.transactionEnd bits 19) s).svl.pending = ⟨0x12, .ok, []⟩ := by decide +kernel

/-- A truncated request and an unknown opcode (R171); a NOP leaves a NOP response (R175). -/
theorem test_link_refusals : (after (.transactionEnd (bitsFor [0x20, 2, 1]) 24) (after .transactionStart s0)).svl.pending =
      ⟨0x20, .badLength, []⟩ ∧
    (after (.unknownOpcode 0x77 (bodyOf [])) s0).svl.pending = ⟨0x77, .unknown, []⟩ ∧
    (after (.nop []) (after (.start (bodyOf [])) s0)).svl.pending = ⟨0, .ok, []⟩ := by decide +kernel

/-- The reads of counters, bins, banks and pockets answer the reset values. -/
theorem test_reads : (after (.readBin (bodyOf [15])) s0).svl.pending.payload = [15, 0, 0, 0, 0, 0, 0, 0, 0, 0, 0, 0] ∧
    (after (.readBank (bodyOf [1, 1, 3])) s0).svl.pending.payload = [0, 3, 0, 0, 0, 0, 0, 0, 0, 1, 0, 0, 0, 0] ∧
    (after (.readPocket (bodyOf [24])) s0).svl.pending.status = .badValue ∧
    (after (.readLotCounts (bodyOf [1])) s0).svl.pending.payload.length = 126 := by decide +kernel

/-- READ_DRIFT and READ_METER at their power-on values (Tables 8.2 and 3.2). -/
theorem test_reads_drift_meter :
    (after (.readDrift (bodyOf [])) s0).svl.pending.payload.take 8 = [4, 8, 0, 10, 0x01, 0xF4, 0, 0] ∧
    (after (.readMeter (bodyOf [1])) s0).svl.pending.payload.take 6 = [1, 0, 0, 20, 0, 0] := by decide +kernel

/-- DRAIN_COMPLETE, BANK_RETURNS_TO_STANDBY and ACTION_COMPLETE act where their condition stands (log entry 7). -/
theorem test_condition_commands :
    ((after (.drainComplete 0) (binWith .draining 100 0 100 0)).bin 0).state = .exchange ∧
    (after (.bankReturnsToStandby .a) (s0.modBank .a fun k => { k with state := .draining })).bankA.state = .standby ∧
    (after .actionComplete (inState .tripped)).trc.complete = true := by decide +kernel

/-! ## Witnesses: for every obligation with hypotheses, a state and operands that meet them, clause by clause -/

/-- A pulse at its end on line 1, and one with more to go on line 2. -/
def pulsing : State := (s0.setPulse 1 (some ⟨30, 30⟩)).setPulse 2 (some ⟨30, 29⟩)

/-- Both ports' timers at their values. -/
def bothDue : State :=
  portADue.modPort .b fun m => { m with state := .online, entries := [⟨9, 4, 2550⟩], timer := some 255 }

/-- Port A's timer at its value, and on port B, not due, a younger entry past the 20 ms now in force, behind an entry of a
MEASURING pocket that a trip takes away. -/
def portADueBMovedOn : State :=
  (portADue.setRecord 4 (some (part .measuring))).modPort .b fun m =>
    { m with state := .online, timeoutMs := 20, entries := [⟨9, 4, 300⟩, ⟨10, 5, 250⟩], timer := some 200 }

/-- Four entries on the hold list. -/
def fullHold : State := s0.setHold [⟨1, 7, .missing⟩, ⟨2, 8, .missing⟩, ⟨3, 9, .missing⟩, ⟨4, 10, .missing⟩]

/-- A RESULT frame for sequence 4 and pocket 1, with its CRC. -/
def resultFrame : List Byte :=
  let body : List Byte := [0x52, 4, 1, 0, 0x4C, 0x24, 0x30, 0, 0x09, 0xC4]
  0xA5 :: body ++ bytesOf 2 (crc16 body).toNat

/-- A record at the decision point, with a MEASURE result. -/
def measured (x : Option StationResult) : Part := { part .measuring with measure := x }

/-- The state with record `r` at the decision point. -/
def atD (r : Part) : State := onRing 7 r

/-- Bank A with entry 0 from -100 to +100, bin 1 with spill bin 2. -/
def withEntry : State :=
  s0.modBank .a fun k => { k with entries := k.entries.set 0 ⟨true, -100, 100, 0, [1]⟩ }

/-- The state with class action `a` for MISSING in bank A. -/
def withAction (a : ClassAction) : State :=
  (s0.modBank .a fun k => { k with actions := k.actions.set 6 a }).setRecord 3 (some (part .measuring))

/-- A HELD record in pocket 3, class MISSING, with its hold entry. -/
def holding : State :=
  (s0.setRecord 3 (some { part .held with grade := .byClass .missing })).setHold [⟨3, 7, .missing⟩]

/-- A transaction open with a NOP response going out. -/
def openTransaction : State := after .transactionStart s0

/-- IdleTickRunsTheTimers: held, not held, a pulse that ends, a pulse that goes on, an idle line, no meter timer due, one due
with the setting on and off, both due, and a port that the other's trip makes due. -/
theorem witness_IdleTickRunsTheTimers :
    (heldState.pending = [] ∧ heldState.ttp.held = true) ∧
    (pulsing.pending = [] ∧ pulsing.ttp.held = false ∧ pulsing.pulse 1 = some ⟨30, 30⟩ ∧
      pulsing.pulse 2 = some ⟨30, 29⟩ ∧ pulsing.pulse 3 = none ∧ pulsing.portA.timer = none ∧
      pulsing.portB.timer = none) ∧
    (portADue.pending = [] ∧ portADue.ttp.held = false ∧ portADue.portA.timer = some 20 ∧
      portADue.portA.entries.head? = some ⟨4, 1, 200⟩ ∧ 10 * 20 ≤ (⟨4, 1, 200⟩ : Outstanding).age ∧
      portADue.portB.timer = none) ∧
    (bothDue.pending = [] ∧ bothDue.portA.timer = some 20 ∧ bothDue.portB.timer = some 255 ∧
      bothDue.portB.entries.head? = some ⟨9, 4, 2550⟩ ∧ 10 * 255 ≤ (⟨9, 4, 2550⟩ : Outstanding).age ∧
      bothDue.trc.config.onMeterFault = true ∧ (meterFault bothDue .a).portB.timer = some 255 ∧
      (meterFault bothDue .a).portB.entries.head? = some ⟨9, 4, 2550⟩) ∧
    (portADue.modTrc fun t => { t with config := { t.config with onMeterFault := false } }).trc.config.onMeterFault =
      false ∧
    (meterFault portADue .a).portB.timer = none ∧
    (portADueBMovedOn.portB.timer = some 200 ∧ portADueBMovedOn.portB.entries.head? = some ⟨9, 4, 300⟩ ∧ ¬10 * 200 ≤ 300 ∧
      portADueBMovedOn.trc.config.onMeterFault = true ∧ (meterFault portADueBMovedOn .a).portB.timer = some 20 ∧
      (meterFault portADueBMovedOn .a).portB.entries.head? = some ⟨10, 5, 250⟩ ∧ 10 * 20 ≤ 250) := by decide +kernel

/-- ReleaseLatchesTheStraps: released and held. -/
theorem witness_ReleaseLatchesTheStraps : s0.ttp.held = false ∧ heldState.ttp.held = true := by decide +kernel

/-- HeldResetHearsNothing: a held reset and a command that is neither a reset, the release nor the GPOL pin. -/
theorem witness_HeldResetHearsNothing : heldState.ttp.held = true ∧ isReset .safeActive = false ∧
    (∀ pins, Instr.safeActive ≠ .resetRelease pins) ∧ ∀ h, Instr.safeActive ≠ .gpolPinChange h :=
  ⟨by decide +kernel, rfl, fun _ e => (nomatch e), fun _ e => (nomatch e)⟩

/-- OutputLinesFollowTheirConditions: held with no pulse, and not held. -/
theorem witness_OutputLinesFollowTheirConditions :
    (heldState.ttp.held = true ∧ ∀ l, heldState.pulse l = none) ∧ s0.ttp.held = false := by decide +kernel

/-- IndexArrivalTakesEveryShareOnce and IndexArrivalAdvancesTheRing: no reset held, an order without repeats, the ring's
law, and the first and last offsets. -/
theorem witness_IndexArrival : s0.ttp.held = false ∧ ([.gates, .grading] : List Share).Nodup ∧ RingOk s0 ∧
    0 < s0.ptk.ring.pockets ∧ 23 < s0.ptk.ring.pockets := by decide +kernel

/-- ContactVerdictAndPassesAtOffsetZero: an empty pocket, and RECIRC, RETEST and other records at offset 0. -/
theorem witness_ContactVerdictAndPassesAtOffsetZero :
    s0.record (pocketAt s0 0) = none ∧
    (onRing 0 (part .recirc)).record (pocketAt s0 0) = some (part .recirc) ∧
    ((onRing 0 (part .retest)).record (pocketAt s0 0) = some (part .retest) ∧ (part .retest).tag = some .a) ∧
    (onRing 0 (part .void)).record (pocketAt s0 0) = some (part .void) := by decide +kernel

/-- LoadArrivalOutcomes: an EMPTY pocket (inhibited, admitted product, admitted reference) and an occupied one. -/
theorem witness_LoadArrivalOutcomes :
    (s0.ttp.held = false ∧ s0.record (pocketAt s0 0) = none ∧ s0.ptk.opState ≠ .run) ∧
    ((inState .run).ttp.held = false ∧ (inState .run).record (pocketAt (inState .run) 0) = none ∧
      (inState .run).ptk.opState = .run) ∧
    ((bankAIn .active).record (pocketAt (bankAIn .active) 0) = none ∧ activeBank (bankAIn .active) = some .a) ∧
    (onRing 0 (part (.graded (.bin 2)))).record (pocketAt (onRing 0 (part (.graded (.bin 2)))) 0) =
      some (part (.graded (.bin 2))) := by decide +kernel

/-- SafeLineTriggersATrip: the line inactive and active, no reset held. -/
theorem witness_SafeLineTriggersATrip : (s0.ttp.held = false ∧ s0.ttp.safeActive = false) ∧
    ((after .safeActive s0).ttp.held = false ∧ (after .safeActive s0).ttp.safeActive = true) := by decide +kernel

/-- SetAuxChecksAndAssigns: in RUN; a code of 8; a code twice; codes 0 and 7 accepted. -/
theorem witness_SetAuxChecksAndAssigns :
    (takesRequest (inState .run) = true ∧ (inState .run).ptk.opState = .run) ∧
    (takesRequest s0 = true ∧ s0.ptk.opState ≠ .run ∧ ∃ x ∈ ([8, 0, 0, 0] : List Byte), 7 < x.toNat) ∧
    ((∀ x ∈ ([7, 7, 0, 0] : List Byte), x.toNat ≤ 7) ∧ ¬(([7, 7, 0, 0] : List Byte).filter fun x => x != 0).Nodup) ∧
    ((∀ x ∈ ([7, 0, 0, 1] : List Byte), x.toNat ≤ 7) ∧ (([7, 0, 0, 1] : List Byte).filter fun x => x != 0).Nodup) := by
  decide +kernel

/-- TrackRequestsByOperatingState: each operating state; with and without an ACTIVE bank; SET_RING with an occupied ring, with
values that do not meet R22 and with values that do. -/
theorem witness_TrackRequestsByOperatingState :
    (takesRequest (inState .tripped) = true ∧ (inState .tripped).ptk.opState = .tripped) ∧
    (takesRequest (inState .run) = true ∧ (inState .run).ptk.opState = .run) ∧
    (takesRequest s0 = true ∧ s0.ptk.opState = .idle ∧ s0.bankA.state ≠ .active ∧ s0.bankB.state ≠ .active) ∧
    (takesRequest (bankAIn .active) = true ∧ (bankAIn .active).ptk.opState = .idle ∧
      (bankAIn .active).bankA.state = .active) ∧
    ((onRing 1 (part .void)).ptk.opState = .idle ∧
      ∃ q : PocketNo, q.val < (onRing 1 (part .void)).ptk.ring.pockets ∧ (onRing 1 (part .void)).record q ≠ none) ∧
    (∀ q : PocketNo, q.val < s0.ptk.ring.pockets → s0.record q = none) ∧
    (ringBytes12.length = 22 ∧ (ringOf ringBytes12).meets) ∧
    ((List.replicate 22 (0 : Byte)).length = 22 ∧ ¬(ringOf (List.replicate 22 0)).meets) := by decide +kernel

/-- ClearTrackEmptiesTheRing: in RUN; in TRIPPED with a part on the ring. -/
theorem witness_ClearTrackEmptiesTheRing :
    (takesRequest (inState .run) = true ∧ (inState .run).ptk.opState = .run) ∧
    (takesRequest ((onRing 4 (part .void)).setOpState .tripped) = true ∧
      ((onRing 4 (part .void)).setOpState .tripped).ptk.opState = .tripped ∧
      RingOk ((onRing 4 (part .void)).setOpState .tripped) ∧
      0 < occupiedCount ((onRing 4 (part .void)).setOpState .tripped)) := by decide +kernel

/-- ReadsReportTheState, RefusedRequestsChangeNothing and the other statements about requests: the state after reset takes a
request, and so does an open transaction; pocket 23 lies below P. -/
theorem witness_takesRequest : takesRequest s0 = true ∧ takesRequest openTransaction = true ∧ 23 < s0.ptk.ring.pockets := by
  decide +kernel

/-- ConfigurationPayloadsRoundTrip: values in range, at the ends of their ranges; a spill list of three; 22 bytes. -/
theorem witness_ConfigurationPayloadsRoundTrip :
    (⟨true, -999999, 999999, 14, [0, 1, 2]⟩ : WindowEntry).spill.length ≤ 3 ∧ ringBytes12.length = 22 ∧
    Ring.powerOn.meets ∧ Lot.powerOn.meets ∧ lot49.meets ∧
    (⟨true, -999999, 999999, 14, [0, 1, 2]⟩ : WindowEntry).meets ∧
    (⟨255, 64, 1000, 10000, 65535⟩ : DriftConfig).meets :=
  ⟨by decide, by decide +kernel, by decide +kernel, by decide +kernel, by decide +kernel, by decide +kernel, by decide +kernel⟩

/-- TriggersAreQueuedAndSent: no record at the station; a due trigger with room, on a full list, on a FAULTED port; a record
not due; the transmitter idle and busy. -/
theorem witness_TriggersAreQueuedAndSent :
    s0.record (pocketAt s0 s0.ptk.ring.measure) = none ∧
    ((onRing 3 (part .measuring)).record (pocketAt (onRing 3 (part .measuring)) 3) = some (part .measuring) ∧
      (part .measuring).tag = some .a ∧ (part .measuring).measure = none ∧ (part .measuring).contact ≠ some .fail ∧
      (onRing 3 (part .measuring)).portA.entries = [] ∧ (onRing 3 (part .measuring)).portA.state = .online) ∧
    (let s := (onRing 3 (part .measuring)).modPort .a fun m =>
        { m with entries := [⟨0, 1, 0⟩, ⟨1, 2, 0⟩, ⟨2, 3, 0⟩, ⟨3, 4, 0⟩] };
      s.portA.state = .online ∧ 4 ≤ s.portA.entries.length ∧ ∀ e ∈ s.portA.entries, e.pocket ≠ pocketAt s 3) ∧
    ((onRing 3 (part .measuring)).modPort .a fun m => { m with state := .faulted }).portA.state = .faulted ∧
    (part .void).state ≠ .measuring ∧ s0.ttp.held = false ∧ (s0.port .a).txSending = none ∧
    ((s0.modPort .a fun m => { m with txSending := some ⟨1, 1, 0⟩ }).port .a).txSending ≠ none := by decide +kernel

/-- ReceiverFramesAndChecks: an ABSENT port; hunting; a start byte; collecting; the thirteenth byte with a wrong CRC, with
another kind, on a FAULTED and on an ONLINE port; and a whole good frame. -/
theorem witness_ReceiverFramesAndChecks :
    (s0.ttp.held = false ∧ (s0.port .b).state = .absent) ∧
    ((s0.port .a).state ≠ .absent ∧ (s0.port .a).rx = [] ∧ (0x11 : Byte) ≠ 0xA5) ∧
    (([0xA5, 0x52] : List Byte) ≠ [] ∧ (([0xA5, 0x52] : List Byte) ++ [0]).length < 13) ∧
    (let bs : List Byte := 0xA5 :: List.replicate 12 0;
      bs.length = 13 ∧ bytesOf 2 (crc16 ((bs.drop 1).take 10)).toNat ≠ bs.drop 11) ∧
    (let bs : List Byte := 0xA5 :: List.replicate 10 0 ++ bytesOf 2 (crc16 (List.replicate 10 0)).toNat;
      bs.length = 13 ∧ bytesOf 2 (crc16 ((bs.drop 1).take 10)).toNat = bs.drop 11 ∧ bs[1]? ≠ some 0x52) ∧
    (resultFrame.length = 13 ∧ bytesOf 2 (crc16 ((resultFrame.drop 1).take 10)).toNat = resultFrame.drop 11 ∧
      resultFrame[1]? = some 0x52 ∧ resultFrame.head? = some 0xA5 ∧
      resultFrameOf resultFrame = some ⟨0x52, 4, 1, 0, 4990000, 0, 2500⟩) ∧
    ((s0.modPort .a fun m => { m with state := .faulted, rx := resultFrame.dropLast }).portA.rx ++ [resultFrame.getLastD 0] =
      resultFrame) := by decide +kernel

/-- MatchedAnswerIsTaken: a record tagged A; a frame that matches no entry, and one that matches the second of two. -/
theorem witness_MatchedAnswerIsTaken :
    ((onRing 0 (part .measuring)).record 0 = some (part .measuring) ∧ (part .measuring).tag = some .a) ∧
    (∀ e ∈ (portABusy.port .a).entries, e.seq ≠ 9) ∧
    ((portABusy.port .a).entries = [⟨4, 1, 0⟩] ++ ⟨5, 2, 0⟩ :: [] ∧
      (∀ x ∈ ([⟨4, 1, 0⟩] : List Outstanding), x.seq ≠ 5) ∧
      ((portABusy.port .a).entries.map Outstanding.pocket).Nodup) := by decide +kernel

/-- MeterTimeoutFaultsThePort: the timer idle, short of its value and at it; after an event, no timer, one timer and both
timers late. -/
theorem witness_MeterTimeoutFaultsThePort : (s0.ttp.held = false ∧ (s0.port .a).timer = none) ∧
    (portABusy.ttp.held = false ∧ (portABusy.port .a).timer = some 20 ∧ (portABusy.port .a).due = false) ∧
    (portADue.ttp.held = false ∧ (portADue.port .a).timer = some 20 ∧
      (portADue.port .a).entries.head? = some ⟨4, 1, 200⟩ ∧ 10 * 20 ≤ (⟨4, 1, 200⟩ : Outstanding).age) ∧
    ((portADue.port .a).entries.head? ≠ (s0.port .a).entries.head? ∧ (portADue.port .b).timer = none) ∧
    ((bothDue.port .b).timer = some 255 ∧ (bothDue.port .b).entries.head? = some ⟨9, 4, 2550⟩ ∧
      (bothDue.port .b).entries.head? ≠ (s0.port .b).entries.head?) := by decide +kernel

/-- MeterRequestsSetAndRestore: port codes 0 and 3; an ABSENT, an ONLINE and a FAULTED port; 255 ms. -/
theorem witness_MeterRequestsSetAndRestore : takesRequest s0 = true ∧ (0 : Byte) ≠ 1 ∧ (3 : Byte) ≠ 2 ∧ (255 : Byte) ≠ 0 ∧
    (s0.port .b).state = .absent ∧ (s0.port .a).state ≠ .absent ∧ (s0.port .a).state ≠ .faulted ∧
    ((s0.modPort .a fun m => { m with state := .faulted }).port .a).state = .faulted := by decide +kernel

/-- MeterCountersBalance: a trigger's arrival keeps the balance of a port whose counters have not saturated. -/
theorem witness_MeterCountersBalance : asks 0x13 (.indexArrival false false false []) = false ∧
    exec (.indexArrival false false false []) (onRing 2 (part .measuring)) =
      .next (after (.indexArrival false false false []) (onRing 2 (part .measuring))) ∧
    ((after (.indexArrival false false false []) (onRing 2 (part .measuring))).port .a).Unsaturated ∧
    ((onRing 2 (part .measuring)).port .a).Balances :=
  ⟨rfl, rfl, by decide +kernel, by decide +kernel⟩

/-- RoundingIsNearestTiesAway, StageOneVerdictsAndRange and ClampAgreementAndMean: a divisor of 1; the ends of the reading's
ranges; each exponent difference from -2 to +2; two deviations at the record's ends. -/
theorem witness_Arithmetic : 0 < 1 ∧ Lot.powerOn.meets ∧ (1000000 ≤ 9999999 ∧ 9999999 ≤ 9999999) ∧
    ((2 : Int) ≤ 2 - Lot.powerOn.exponent) ∧ (-2 - Lot.powerOn.exponent ≤ -2) ∧
    (-1 ≤ 1 - Lot.powerOn.exponent ∧ 1 - Lot.powerOn.exponent ≤ 1) ∧ -1 ≤ -1 - Lot.powerOn.exponent ∧
    ((999999 : Int).natAbs ≤ 999999 ∧ (-999999 : Int).natAbs ≤ 999999) ∧
    (1999997 < ((999999 : Int) - -999999).natAbs ∧ ((999999 : Int) - -999999).natAbs ≤ 1999998) ∧
    (stage1 1000000 2 Lot.powerOn = .over ∧ stage1 1000000 (-2) Lot.powerOn = .under ∧
      stage1 1000000 0 Lot.powerOn = .value 0) := by decide +kernel

/-- GuardAndWindowTest: equal offsets with the greatest guard band, and a window narrower than the guard. -/
theorem witness_GuardAndWindowTest : (0 : Int) = 0 ∧ 5000 ≤ 5000 ∧ (10 : Int) - 0 < 2 * (6 : Nat) := by decide +kernel

/-- BankWritesChecksAndEffects: bank code 3; TRIPPED; an ACTIVE bank; refused and accepted payloads at each request; the other
bank STANDBY and not. -/
theorem witness_BankWritesChecksAndEffects :
    (takesRequest s0 = true ∧ (3 : Byte) ≠ 1 ∧ (3 : Byte) ≠ 2) ∧
    (takesRequest (inState .tripped) = true ∧ (inState .tripped).ptk.opState = .tripped) ∧
    ((bankAIn .active).bank .a).state ≠ .standby ∧
    (s0.ptk.opState ≠ .tripped ∧ (s0.bank .a).state = .standby ∧ (s0.bank (otherBank .a)).state = .standby) ∧
    (((bankAIn .active).bank .b).state = .standby ∧ ((bankAIn .active).bank (otherBank .b)).state ≠ .standby) ∧
    (lotBytes49.tail.length = 20 ∧ lotOf lotBytes49.tail = some lot49 ∧ lotOf (List.replicate 20 0) = none) ∧
    (entryOf [0, 0, 0, 0, 0, 0, 0, 1, 0, 0, 0, 0] = some ⟨false, 0, 0, 0, []⟩ ∧ entryOf (List.replicate 12 0) = none ∧
      (15 : Byte).toNat = (15 : Fin 16).val ∧ 15 < (16 : Byte).toNat) ∧
    (8 < (9 : Byte).toNat ∧ (8 : Byte).toNat = (8 : Fin 9).val ∧
      actionBytes ⟨.hold, .bin 14, true, true⟩ = [2, 15, 1, 1]) := by decide +kernel

/-- ActivationAndDraining: each bank state; no valid entry, a window narrower than twice the guard band, verify with one port,
and a bank that passes; DRAINING with 0, 1 and 2 parts. -/
theorem witness_ActivationAndDraining :
    (takesRequest s0 = true ∧ (s0.bank .a).state = .standby ∧ ¬∃ e : Fin 16, ((s0.bank .a).entries[e]).valid = true) ∧
    ((bankAIn .active).bank .a).state = .active ∧ ((bankAIn .draining).bank .a).state = .draining ∧
    ((∃ e : Fin 16, ((withEntry.bank .a).entries[e]).valid = true) ∧
      ∀ e : Fin 16, ((withEntry.bank .a).entries[e]).valid = true →
        2 * ((withEntry.bank .a).lot.guardBand : Int) ≤
          ((withEntry.bank .a).entries[e]).upper - ((withEntry.bank .a).entries[e]).lower) ∧
    ((withEntry.bank .a).lot.verify = true → withEntry.ttp.mportsTwo = true) ∧
    (let s := withEntry.modBank .a fun k => { k with lot := { k.lot with guardBand := 101 } };
      ¬∀ e : Fin 16, ((s.bank .a).entries[e]).valid = true →
        2 * ((s.bank .a).lot.guardBand : Int) ≤ ((s.bank .a).entries[e]).upper - ((s.bank .a).entries[e]).lower) ∧
    (let s := withEntry.modBank .a fun k => { k with lot := { k.lot with verify := true } };
      ¬((s.bank .a).lot.verify = true → s.ttp.mportsTwo = true)) ∧
    (s0.ttp.held = false ∧ ((bankAIn .draining).bank .a).onRing = 1 ∧ (s0.bank .a).onRing = 0) := by decide +kernel

/-- DecisionPointTestsInOrder: a port without and with an entry for the pocket; an EMPTY pocket; a record not MEASURING; a reference; recirculation; contact FAIL; a result
absent; an OK result with verify off and on. -/
theorem witness_DecisionPointTestsInOrder :
    (s0.portA.entries = [] ∧ (portABusy.portA.entries.filter fun e => e.pocket == 1) = [⟨4, 1, 0⟩] ∧
      pocketAt { portABusy with ptk := { portABusy.ptk with loadPointer := 8 } } portABusy.ptk.ring.decision = 1) ∧
    s0.record (pocketAt s0 s0.ptk.ring.decision) = none ∧
    (atD (part .void)).record (pocketAt (atD (part .void)) 7) = some (part .void) ∧
    ((atD { part .measuring with kind := .reference }).record (pocketAt s0 7) =
      some { part .measuring with kind := .reference }) ∧
    (let s := ((atD (part .measuring)).setOpState .tripped).modTrc fun t => { t with config := ⟨.recirculate, true, true⟩ };
      s.record (pocketAt s 7) = some (part .measuring) ∧ s.ptk.opState = .tripped ∧ s.trc.config.action = .recirculate) ∧
    ((atD { part .measuring with contact := some .fail }).record (pocketAt s0 7) =
      some { part .measuring with contact := some .fail }) ∧
    ((atD (measured none)).record (pocketAt s0 7) = some (measured none) ∧ s0.ptk.opState ≠ .tripped) ∧
    (((atD (measured (some (.ok 1000000 0 2500)))).bank .a).lot.verify = false) ∧
    ((((atD (measured (some (.ok 1000000 0 2500)))).modBank .a fun k =>
      { k with lot := { k.lot with verify := true } }).bank .a).lot.verify = true) := by decide +kernel

/-- FirstMatchedEntryTakesTheFirstBin: no match; a match at the bound with the first bin refusing and the second granting; a
match with every bin refusing. -/
theorem witness_FirstMatchedEntryTakesTheFirstBin :
    let s := (withEntry.setRecord 3 (some (part .measuring))).setBin 1 ⟨.opened, 5, 0, 0, 0, 0⟩
    let guard := effectiveGuard (s.bank .a).lot ⟨s.drm.applied, s.drm.target⟩
    s.record 3 = some (part .measuring) ∧
    (∀ e : Fin 16, ((s.bank .a).entries[e]).hits guard 101 = false) ∧
    (((s.bank .a).entries[(0 : Fin 16)]).hits guard 100 = true ∧ (∀ f : Fin 16, f < 0 → False) ∧
      ((s.bank .a).entries[(0 : Fin 16)]).primary :: ((s.bank .a).entries[(0 : Fin 16)]).spill = [0] ++ 1 :: [] ∧
      (s.bin 0).grants false = false ∧ (s.bin 1).grants false = true) ∧
    ((withEntry.bin 0).grants false = false ∧ (withEntry.bin 1).grants false = false) := by decide +kernel

/-- ClassActionsRun: BIN; RETEST below and at the limit; HOLD with room and without. -/
theorem witness_ClassActionsRun :
    ((withAction ⟨.bin, .bin 0, false, false⟩).record 3 = some (part .measuring) ∧
      ((withAction ⟨.bin, .bin 0, false, false⟩).bank .a).actions[PartClass.missing.code].kind = .bin) ∧
    (let s := (withAction ⟨.retest, .sweep, false, false⟩).modBank .a fun k => { k with lot := { k.lot with retestLimit := 1 } };
      (s.bank .a).actions[PartClass.missing.code].kind = .retest ∧ (part .measuring).retests < (s.bank .a).lot.retestLimit) ∧
    (((withAction ⟨.retest, .sweep, false, false⟩).bank .a).lot.retestLimit ≤ (part .measuring).retests) ∧
    (((withAction ⟨.hold, .sweep, false, false⟩).bank .a).actions[PartClass.missing.code].kind = .hold ∧
      (withAction ⟨.hold, .sweep, false, false⟩).svl.hold.length < 4) ∧
    4 ≤ ((withAction ⟨.hold, .sweep, false, false⟩).setHold fullHold.svl.hold).svl.hold.length := by decide +kernel

/-- ReferencePathBinsThenReports: a result that is not OK; a range verdict; a raw value. -/
theorem witness_ReferencePathBinsThenReports :
    (atD (part .measuring)).record (pocketAt s0 7) = some (part .measuring) ∧
    (∀ m e t, (part .measuring).measure ≠ some (.ok m e t)) ∧
    (measured (some (.ok 1000000 2 2500))).measure = some (.ok 1000000 2 2500) ∧
    stage1 1000000 2 Lot.powerOn = .over ∧ stage1 1000000 (-2) Lot.powerOn = .under ∧
    stage1 1000100 0 Lot.powerOn = .value 100 :=
  ⟨by decide +kernel, fun _ _ _ e => (nomatch e), rfl, by decide +kernel, by decide +kernel, by decide +kernel⟩

/-- ReservationFireAndRelease: a bin that refuses; one that becomes FULL; one with more room; a drain that completes and one
that does not. -/
theorem witness_ReservationFireAndRelease :
    (s0.bin 0).grants true = false ∧
    (((binWith .opened 5 0 2 2).bin 0).grants false = true ∧ ((binWith .opened 5 0 2 2).bin 0).state = .opened ∧
      ((binWith .opened 5 0 2 2).bin 0).filled + ((binWith .opened 5 0 2 2).bin 0).reserved + 1 = 5) ∧
    (((bin1 .opened).bin 0).grants false = true ∧ ((bin1 .opened).bin 0).filled + ((bin1 .opened).bin 0).reserved + 1 ≠ 5) ∧
    (((bin1 .draining).bin 0).state = .draining ∧ ((bin1 .draining).bin 0).reserved - 1 = 0 ∧
      pulseRunning (bin1 .draining) 0 = false) ∧
    ¬((bin1 .opened).bin 0).state = .draining := by decide +kernel

/-- SetBinChecksAndDerives: bin numbers 0 and 16, capacity 0, a close byte of 2; closing accepted and refused; the room law
broken; each derived state. -/
theorem witness_SetBinChecksAndDerives :
    (takesRequest s0 = true ∧ (0 : Byte) = 0 ∧ 15 < (16 : Byte).toNat ∧ 1 < (2 : Byte).toNat) ∧
    (1 ≤ 1 ∧ 65535 ≤ 65535 ∧ 255 ≤ 255) ∧
    ((s0.bin 0).reserved = 0 ∧ pulseRunning s0 0 = false) ∧ ((bin1 .opened).bin 0).reserved ≠ 0 ∧
    (1 + 0 < ((bin1 .opened).bin 0).filled + ((bin1 .opened).bin 0).reserved) ∧
    (((bin1 .draining).bin 0).state = .draining ∧
      ((bin1 .draining).bin 0).filled + ((bin1 .draining).bin 0).reserved ≤ 2 + 0) ∧
    ((bin1 .opened).bin 0).filled + ((bin1 .opened).bin 0).reserved < 3 ∧
    2 ≤ ((bin1 .opened).bin 0).filled + ((bin1 .opened).bin 0).reserved := by decide +kernel

/-- BoxExchangeDrainAndPulseEnd: bin numbers 0 and 16; each bin state; pulses running and idle; a drain ready and not. -/
theorem witness_BoxExchangeDrainAndPulseEnd :
    (takesRequest s0 = true ∧ 15 < (16 : Byte).toNat) ∧
    ((s0.bin 0).state ≠ .opened ∧ (s0.bin 0).state ≠ .full ∧ (s0.bin 0).state ≠ .exchange) ∧
    (((binWith .opened 5 0 0 0).bin 0).state = .opened ∧ ((binWith .opened 5 0 0 0).bin 0).reserved = 0 ∧
      pulseRunning (binWith .opened 5 0 0 0) 0 = false) ∧
    ((bin1 .full).bin 0).reserved ≠ 0 ∧ ((bin1 .exchange).bin 0).state = .exchange ∧
    (s0.ttp.held = false ∧ ((binWith .draining 5 0 5 0).bin 0).state = .draining ∧
      ((binWith .draining 5 0 5 0).bin 0).reserved = 0) ∧
    pulseRunning (s0.setPulse (lineOf 0) (some ⟨30, 1⟩)) 0 = true ∧
    ((s0.setPulse 0 (some ⟨30, 30⟩)).pulse 0 = some ⟨30, 30⟩ ∧ ((binWith .draining 5 0 5 0).setPulse 1
      (some ⟨30, 30⟩)).pulse (lineOf 0) = some ⟨30, 30⟩ ∧ 30 ≤ 30) ∧
    ((s0.setPulse 0 (some ⟨30, 29⟩)).pulse 0 = some ⟨30, 29⟩ ∧ ¬30 ≤ 29) ∧ s0.pulse 0 = none := by decide +kernel

/-- GateFiresForItsGradedPocket: no such record; a record GRADED with the bin, tagged, reserved. -/
theorem witness_GateFiresForItsGradedPocket :
    (∀ r, s0.record (pocketAt s0 s0.ptk.ring.gates[(0 : Fin 15)]) = some r → r.state ≠ .graded (.bin 0)) ∧
    (let s := (bin1 .opened).setRecord (pocketAt s0 8) (some (part (.graded (.bin 0))));
      s.record (pocketAt s s.ptk.ring.gates[(0 : Fin 15)]) = some (part (.graded (.bin 0))) ∧
      (part (.graded (.bin 0))).tag = some .a ∧ 1 ≤ (s.bin 0).reserved) :=
  ⟨fun r e => absurd e (by rw [show s0.record (pocketAt s0 s0.ptk.ring.gates[(0 : Fin 15)]) = none by decide +kernel]; simp),
    by decide +kernel⟩

/-- SweepTakesWhatNoGateTook: an EMPTY pocket at W; a record that passes; records that are swept. -/
theorem witness_SweepTakesWhatNoGateTook :
    s0.record (pocketAt s0 s0.ptk.ring.sweep) = none ∧
    (onRing 23 (part .retest)).record (pocketAt s0 23) = some (part .retest) ∧
    ((onRing 23 (part .held)).record (pocketAt s0 23) = some (part .held) ∧ (part .held).tag = some .a) ∧
    (onRing 23 (part (.graded (.bin 4)))).record (pocketAt s0 23) = some (part (.graded (.bin 4))) ∧
    ((onRing 23 { part .void with tag := none }).record (pocketAt s0 23) = some { part .void with tag := none } ∧
      ({ part .void with tag := none } : Part).state ≠ .measuring) := by decide +kernel

/-- SamplesMoveTheTarget: a sample at the alarm limit and one beyond it. -/
theorem witness_SamplesMoveTheTarget : (500 : Int).natAbs ≤ s0.drm.config.alarmLimit ∧
    s0.drm.config.alarmLimit < (-501 : Int).natAbs := by decide +kernel

/-- PeriodWrapsAndEpisodes: the eighth arrival and the one before; an episode that begins and one that does not; a load that
is admitted, one on an occupied pocket and one outside RUN. -/
theorem witness_PeriodWrapsAndEpisodes :
    (let s := s0.modDrm fun d => { d with periodCount := 7 };
      s.ttp.held = false ∧ s.drm.config.period ≤ s.drm.periodCount + 1) ∧
    s0.drm.periodCount + 1 < s0.drm.config.period ∧
    (nearOverdue.ttp.held = false ∧ nearOverdue.record (pocketAt nearOverdue 0) = none ∧
      nearOverdue.ptk.opState = .run ∧ nearOverdue.drm.config.interval ≠ 0 ∧
      nearOverdue.drm.config.interval < (satAdd nearOverdue.drm.overdueCount 1).toNat ∧
      nearOverdue.drm.overdueFlag = false) ∧
    (s0.ptk.opState ≠ .run ∧ ¬s0.drm.config.interval ≠ 0) ∧
    (onRing 0 (part .void)).record (pocketAt s0 0) ≠ none := by decide +kernel

/-- DriftRequestsSetAndClear: a configuration in range; eight bytes that are none; no sample, a sample at the limit, a sample
beyond it. -/
theorem witness_DriftRequestsSetAndClear :
    takesRequest s0 = true ∧ DriftConfig.powerOn.meets ∧
    ((List.replicate 8 (0 : Byte)).length = 8 ∧
      ∀ c : DriftConfig, c.meets → driftConfigBytes c ≠ List.replicate 8 0) ∧
    s0.drm.lastSample = none ∧
    (s0.modDrm fun d => { d with lastSample := some 500 }).drm.lastSample = some 500 ∧
    (500 : Int).natAbs ≤ s0.drm.config.alarmLimit ∧ s0.drm.config.alarmLimit < (501 : Int).natAbs := by
  refine ⟨by decide +kernel, by decide +kernel, ⟨rfl, fun c h e => ?_⟩, rfl, rfl, by decide +kernel, by decide +kernel⟩
  have hs := (List.cons.inj e).1
  have hr : 1 ≤ c.step ∧ c.step ≤ 255 := h.1
  have := congrArg BitVec.toNat hs
  simp [byte] at this
  omega

/-- TripTriggerRecordsTheCause and TripActionsTreatEachPocket: a trigger on a record CAPTURED and on one not CAPTURED; a
port none of whose entries is lost, and one that loses its oldest. -/
theorem witness_TripTriggerRecordsTheCause :
    (tripTrigger s0 .slip).trc.record = .captured (snapshot (tripEntry s0 .slip) .slip) ∧
    (∀ snap, s0.trc.record ≠ .captured snap) ∧
    tripTrigger portABusy .command = tripTrigger portABusy .command ∧
    portABusy.portA.entries.filter (fun e => isMeasuring portABusy e.pocket) = [] ∧
    portALate.portA.entries.filter (fun e => isMeasuring portALate e.pocket) = [⟨4, 0, 300⟩] :=
  ⟨by decide +kernel, fun _ e => (nomatch e), rfl, by decide +kernel, by decide +kernel⟩

/-- VoidingAndMarkingHandOff: EMPTY and each state of a record, tagged and untagged. -/
theorem witness_VoidingAndMarkingHandOff :
    s0.record 3 = none ∧ holding.record 3 = some { part .held with grade := .byClass .missing } ∧
    (onRing 0 (part .void)).record 0 = some (part .void) ∧
    (onRing 0 (part (.graded .sweep))).record 0 = some (part (.graded .sweep)) ∧
    (onRing 0 (part (.graded (.bin 14)))).record 0 = some (part (.graded (.bin 14))) ∧
    (onRing 0 (part .measuring)).record 0 = some (part .measuring) ∧ (part .void).tag = some .a ∧
    ({ part .void with tag := none } : Part).tag = none := by decide +kernel

/-- TripRequestsSetAndClear: TRIPPED and not; each value out of range; the conditions of CLEAR_TRIP met and not; an empty
ring and one that is not. -/
theorem witness_TripRequestsSetAndClear :
    (takesRequest (inState .tripped) = true ∧ (inState .tripped).ptk.opState = .tripped ∧
      (inState .tripped).trc.complete = false) ∧
    (takesRequest s0 = true ∧ s0.ptk.opState ≠ .tripped ∧ 2 < (3 : Byte).toNat ∧ 1 < (2 : Byte).toNat) ∧
    (let s := tripTrigger s0 .command;
      takesRequest s = true ∧ s.ptk.opState = .tripped ∧ s.trc.complete = true ∧ s.ttp.safeActive = false ∧
        s.drm.latch = false ∧ (s.trc.causes.meterA = true → s.portA.state = .online) ∧
        (s.trc.causes.meterB = true → s.portB.state = .online)) ∧
    ((inState .tripped).ttp.held = false ∧ ∀ p, (inState .tripped).record p = none) ∧
    ∃ p, (onRing 2 (part .void)).record p ≠ none := by decide +kernel

/-- TransactionsMoveTheResponses: ignoring; no transaction; an open one with and without a response built. -/
theorem witness_TransactionsMoveTheResponses :
    (let s : State := { s0 with svl := { s0.svl with ignoring := true } };
      s.ttp.held = false ∧ s.svl.ignoring = true) ∧
    (s0.ttp.held = false ∧ s0.svl.ignoring = false ∧ s0.svl.outgoing = none) ∧
    (openTransaction.svl.ignoring = false ∧ openTransaction.svl.outgoing = some ⟨0, .ok, []⟩ ∧
      openTransaction.svl.next = none ∧ openTransaction.svl.taken = false ∧ requestLength 0x77 = none ∧
      requestLength 0x11 ≠ none) ∧
    (bytesOfBits (bitsFor [0x77, 0]) = [0x77, 0] ∧ bytesOfBits (bitsFor [0x11, 63]) = [0x11, 63] ∧ 62 < (63 : Byte).toNat ∧
      bytesOfBits (bitsFor [0x20, 2, 1]) = [0x20, 2, 1] ∧ ([1] : List Byte).length < (2 : Byte).toNat ∧
      bytesOfBits (bitsFor [0]) = [0] ∧ ([true, false] : List Bool).length < 8) ∧
    (let s := after (.start (bodyOf [])) openTransaction;
      s.svl.outgoing = some ⟨0, .ok, []⟩ ∧ s.svl.next = some ⟨0x11, .condition, []⟩ ∧ s.svl.taken = true) := by
  decide +kernel

/-- RefusedRequestsChangeNothing: a request, taken and not, with a wrong length and with a missing byte. -/
theorem witness_RefusedRequestsChangeNothing :
    requestOf (.setMeter (bodyOf [1, 20])) = some (0x20, bodyOf [1, 20]) ∧ takesRequest heldState = false ∧
    takesRequest s0 = true ∧ s0.svl.outgoing = none ∧
    (takesRequest openTransaction = true ∧ openTransaction.svl.outgoing ≠ none ∧ (bodyOf [1, 20]).len.toNat ≤ 62 ∧
      (bodyOf [1, 20]).bytes.length = (bodyOf [1, 20]).len.toNat) ∧
    requestLength 0x20 ≠ some (bodyOf [1]).len.toNat ∧ (⟨2, [1]⟩ : Body).bytes.length < (⟨2, [1]⟩ : Body).len.toNat := by
  decide +kernel

/-- VerdictsRuleOnHeldPockets: values out of range; a pocket not HELD; a HELD one before and at a gate; a bin that refuses and
one that grants; a retest below and at the limit. -/
theorem witness_VerdictsRuleOnHeldPockets :
    (takesRequest holding = true ∧ holding.ptk.ring.pockets ≤ (24 : Byte).toNat ∧ 1 < (2 : Byte).toNat ∧
      15 < (16 : Byte).toNat) ∧
    (3 < holding.ptk.ring.pockets ∧ (1 : Byte).toNat ≤ 1 ∧ (15 : Byte).toNat ≤ 15 ∧ s0.record 3 = none) ∧
    (holding.record 3 = some { part .held with grade := .byClass .missing } ∧ offsetOf holding 3 = 21 ∧
      holding.ptk.ring.gates[(13 : Fin 15)] = 21 ∧ holding.ptk.ring.gates[(14 : Fin 15)] = 22) ∧
    ((holding.bin 14).grants false = false ∧
      ((holding.setBin 14 ⟨.opened, 1, 0, 0, 0, 0⟩).bin 14).grants false = true) ∧
    ((holding.bank .a).lot.retestLimit ≤ 0 ∧
      0 < ((holding.modBank .a fun k => { k with lot := { k.lot with retestLimit := 1 } }).bank .a).lot.retestLimit) := by
  decide +kernel

/-- MeterFramesAreBuiltAndRead: field values at the ends of their ranges. -/
theorem witness_MeterFramesAreBuiltAndRead :
    (-3 ≤ (⟨255, 31, 6⟩ : TriggerFrame).exponent ∧ (⟨255, 31, 6⟩ : TriggerFrame).exponent ≤ 6) ∧
    (let f : ResultFrame := ⟨0x52, 255, 31, 3, 2 ^ 24 - 1, -128, 32767⟩;
      (s0.port .a).txSending = none ∧ (({ s0.portA with txSending := some ⟨255, 31, 6⟩ } : MeterPort).txSending =
        some ⟨255, 31, 6⟩) ∧ f.mantissa < 2 ^ 24 ∧ -128 ≤ f.exponent ∧ f.exponent ≤ 127 ∧ -32768 ≤ f.temperature ∧ f.temperature ≤ 32767) := by
  decide +kernel

/-- One VOID part tagged A on the ring, bank A ACTIVE. -/
def oneOnRing : State :=
  (s0.setRecord 3 (some (part .void))).modBank .a fun k =>
    { k with state := .active, onRing := 1, counts := { k.counts with loaded := 1 } }

/-- A state with a HELD part on the hold list and a command waiting. -/
def waiting : State := { holding with pending := [.safeActive] }

/-- The laws that every step keeps, and GatesPulseExactlyTheFired: a state that meets them, whose step answers a next state. -/
theorem witness_Laws : RingOk waiting ∧ HoldOk waiting ∧ BinsOk waiting ∧ PortsOk waiting ∧ DriftOk waiting ∧
    TripOk waiting ∧ LinkOk waiting ∧ HeldOk waiting ∧ step waiting = .next (after .safeActive holding) :=
  ⟨by decide +kernel, by decide +kernel, by decide +kernel, by decide +kernel, by decide +kernel, by decide +kernel,
    by decide +kernel, by decide +kernel, rfl⟩

/-- BanksLawAndLotBalanceAreKept: a state with one part on the ring and a command waiting. -/
theorem witness_Banks :
    let s : State := { oneOnRing with pending := [.safeInactive] }
    BanksOk s ∧ LotBalances s .a ∧ RetestsOk s ∧ step s = .next (after .safeInactive oneOnRing) :=
  ⟨by decide +kernel, by decide +kernel, by decide +kernel, rfl⟩

/-- OnlySomeCommandsChange: commands that change what the statement lists. -/
theorem witness_OnlySomeCommandsChange :
    isReset .safeInactive = false ∧
    (let s := s0.raise .trip;
      s.svl.attention.has .trip = true ∧ (after (.readAttention (bodyOf [])) s).svl.attention.has .trip = false) ∧
    (let s := tripTrigger s0 .command;
      s.ptk.opState = .tripped ∧ (after (.clearTrip (bodyOf [])) s).ptk.opState ≠ .tripped) ∧
    (after (.setRing (bodyOf ringBytes12)) s0).ptk.ring ≠ s0.ptk.ring ∧
    (after (.loadArrival false) s0).ptk.serial ≠ s0.ptk.serial ∧
    (after (.indexArrival false false false []) s0).ptk.indexCount ≠ s0.ptk.indexCount ∧
    (after (.transactionEnd (bitsFor ([0x10, 22] ++ ringBytes12)) 192) openTransaction).ptk.ring ≠ openTransaction.ptk.ring ∧
    asks 0x10 (.transactionEnd (bitsFor ([0x10, 22] ++ ringBytes12)) 192) = true ∧
    ((bankAIn .active).bank .a).state ≠ .standby := by decide +kernel

end Sys2Proof.Tests
end

