-- ==== Sys2Proof/Proofs/TrackRequests.lean ====
section
/-! PROOF. START, STOP and SET_RING: what a well-formed request's arrival gives, what the three owners answer by operating
state, and SET_RING's checks as R22 lists them. -/

namespace Sys2Proof.Machine

/-! ## A request with its own bytes -/

/-- A request that is taken and whose payload has the length of Table 10.9 is answered by its owner (R171). -/
theorem request_bodyOf {op : Byte} {p : List Byte} {own : List Byte → State → State × Reply} {s : State}
    (taken : takesRequest s = true) (length : requestLength op = some p.length) (short : p.length < 256) :
    request op (bodyOf p) own s = (own p s).1.answer op (own p s).2 := by
  have len : (bodyOf p).len.toNat = p.length := by
    rw [bodyOf, BitVec.toNat_ofNat, Nat.mod_eq_of_lt short]
  have fits : fitsLength op (bodyOf p) = true := by
    simp only [fitsLength, len, length, BEq.rfl, Bool.true_and]
    exact decide_eq_true le_rfl
  have payload : (bodyOf p).bytes.take (bodyOf p).len.toNat = p := by
    rw [len]; exact List.take_length
  simp only [request, if_pos taken, if_pos fits, payload]

theorem exec_start_of_takes {s : State} (taken : takesRequest s = true) :
    exec (.start (bodyOf [])) s = .next ((ownStart [] s).1.answer 0x11 (ownStart [] s).2) :=
  congrArg Host.Outcome.next (request_bodyOf taken rfl (by decide))

theorem exec_stop_of_takes {s : State} (taken : takesRequest s = true) :
    exec (.stop (bodyOf [])) s = .next ((ownStop [] s).1.answer 0x12 (ownStop [] s).2) :=
  congrArg Host.Outcome.next (request_bodyOf taken rfl (by decide))

theorem exec_setRing_of_takes {s : State} {p : List Byte} (taken : takesRequest s = true) (length : p.length = 22) :
    exec (.setRing (bodyOf p)) s = .next ((ownSetRing p s).1.answer 0x10 (ownSetRing p s).2) :=
  congrArg Host.Outcome.next (request_bodyOf taken (by rw [length]; rfl) (by omega))

/-! ## START and STOP (R19, R20) -/

/-- There is an ACTIVE bank exactly where one of the two banks is ACTIVE (R81). -/
theorem activeBank_isSome_iff (s : State) :
    (activeBank s).isSome = true ↔ s.bankA.state = .active ∨ s.bankB.state = .active := by
  unfold activeBank
  by_cases a : s.bankA.state = .active
  · simp [a]
  · by_cases b : s.bankB.state = .active <;> simp [a, b]

theorem ownStart_of_tripped {s : State} (h : s.ptk.opState = .tripped) (p : List Byte) :
    ownStart p s = (s, ⟨.wrongState, []⟩) := by
  simp only [ownStart, h]; rfl

theorem ownStart_of_run {s : State} (h : s.ptk.opState = .run) (p : List Byte) : ownStart p s = (s, ⟨.ok, []⟩) := by
  simp only [ownStart, h]; rfl

theorem ownStart_of_idle_active {s : State} (h : s.ptk.opState = .idle)
    (active : s.bankA.state = .active ∨ s.bankB.state = .active) (p : List Byte) :
    ownStart p s = (s.setOpState .run, ⟨.ok, []⟩) := by
  simp only [ownStart, h, if_pos ((activeBank_isSome_iff s).mpr active)]; rfl

theorem ownStart_of_idle_inactive {s : State} (h : s.ptk.opState = .idle)
    (inactive : ¬(s.bankA.state = .active ∨ s.bankB.state = .active)) (p : List Byte) :
    ownStart p s = (s, ⟨.condition, []⟩) := by
  simp only [ownStart, h, if_neg (mt (activeBank_isSome_iff s).mp inactive)]; rfl

theorem ownStop_of_tripped {s : State} (h : s.ptk.opState = .tripped) (p : List Byte) :
    ownStop p s = (s, ⟨.wrongState, []⟩) := by
  simp only [ownStop, h]; rfl

theorem ownStop_of_run {s : State} (h : s.ptk.opState = .run) (p : List Byte) :
    ownStop p s = (s.setOpState .idle, ⟨.ok, []⟩) := by
  simp only [ownStop, h]; rfl

theorem ownStop_of_idle {s : State} (h : s.ptk.opState = .idle) (p : List Byte) : ownStop p s = (s, ⟨.ok, []⟩) := by
  simp only [ownStop, h]; rfl

/-! ## SET_RING (R22, R23) -/

/-- The pockets of the ring are those below P. -/
theorem mem_ringPockets {s : State} {p : PocketNo} : p ∈ ringPockets s ↔ p.val < s.ptk.ring.pockets := by
  simp [ringPockets, allPockets]

/-- Check 2 of R22 asks for EMPTY at every pocket below P. -/
theorem ringEmpty_iff (s : State) :
    ringEmpty s = true ↔ ∀ p : PocketNo, p.val < s.ptk.ring.pockets → s.record p = none := by
  simp [ringEmpty, mem_ringPockets]

/-- A test of all gate offsets is a test of each sort bin's. -/
theorem gates_all_iff (v : Vector Nat 15) (test : Nat → Bool) :
    v.toList.all test = true ↔ ∀ b : SortBin, test v[b] = true := by
  simp [Fin.forall_iff]

/-- The model's value check is R22's list of conditions. -/
theorem Ring.valid_iff_meets (r : Ring) : r.valid = true ↔ r.meets := by
  simp only [Ring.valid, Ring.meets, Bool.and_eq_true, decide_eq_true_eq, gates_all_iff, and_assoc]
  constructor
  · rintro ⟨p, p', c, m, m', v, v', d, d', g, w, w', pw, pw', cm, md, vd, order⟩
    exact ⟨p, p', c, m, m', v, v', d, d', w, w', pw, pw', cm, md, vd, fun b => ⟨(g b).1, (g b).2, order b⟩⟩
  · rintro ⟨p, p', c, m, m', v, v', d, d', w, w', pw, pw', cm, md, vd, gates⟩
    exact ⟨p, p', c, m, m', v, v', d, d', fun b => ⟨(gates b).1, (gates b).2.1⟩, w, w', pw, pw', cm, md, vd,
      fun b => (gates b).2.2⟩

theorem ownSetRing_of_not_idle {s : State} (h : s.ptk.opState ≠ .idle) (p : List Byte) :
    ownSetRing p s = (s, ⟨.wrongState, []⟩) := by
  simp only [ownSetRing, if_pos h]; rfl

theorem ownSetRing_of_occupied {s : State} (h : s.ptk.opState = .idle) (occupied : ringEmpty s = false) (p : List Byte) :
    ownSetRing p s = (s, ⟨.condition, []⟩) := by
  simp only [ownSetRing, if_neg (not_not.mpr h), if_pos occupied]; rfl

theorem ownSetRing_of_empty {s : State} (h : s.ptk.opState = .idle) (empty : ringEmpty s = true) (p : List Byte) :
    ownSetRing p s =
      if (ringOf p).valid = false then (s, ⟨.badValue, []⟩) else (setRing s (ringOf p), ⟨.ok, []⟩) := by
  simp only [ownSetRing, if_neg (not_not.mpr h), empty]; rfl

/-- Settles O14: each operating state of START and STOP, and SET_RING's checks in the order of R22. -/
theorem trackRequestsByOperatingState : Obligations.TrackRequestsByOperatingState := by
  unfold Obligations.TrackRequestsByOperatingState
  intro s taken
  rw [exec_start_of_takes taken, exec_stop_of_takes taken]
  refine ⟨fun h => ?tripped, fun h => ?run, fun h => ⟨?stop, fun active => ?active, fun a b => ?inactive⟩,
    fun p length => ?setRing⟩
  case tripped => rw [ownStart_of_tripped h, ownStop_of_tripped h]; exact ⟨rfl, rfl⟩
  case run => rw [ownStart_of_run h, ownStop_of_run h]; exact ⟨rfl, rfl⟩
  case stop => rw [ownStop_of_idle h]
  case active => rw [ownStart_of_idle_active h active]; rfl
  case inactive => rw [ownStart_of_idle_inactive h (not_or.mpr ⟨a, b⟩)]
  case setRing =>
    rw [exec_setRing_of_takes taken length]
    refine ⟨fun h => ?_, fun h occupied => ?_, fun h empty => ⟨fun bad => ?_, fun good => ?_⟩⟩
    · rw [ownSetRing_of_not_idle h]
    · obtain ⟨q, below, full⟩ := occupied
      have occ : ringEmpty s = false :=
        Bool.eq_false_iff.mpr fun e => full ((ringEmpty_iff s).mp e q below)
      rw [ownSetRing_of_occupied h occ]
    · rw [ownSetRing_of_empty h ((ringEmpty_iff s).mpr empty),
        if_pos (Bool.eq_false_iff.mpr (mt (Ring.valid_iff_meets _).mp bad))]
    · rw [ownSetRing_of_empty h ((ringEmpty_iff s).mpr empty),
        if_neg (by rw [(Ring.valid_iff_meets _).mpr good]; decide)]
      rfl

end Sys2Proof.Machine
end

