-- ==== Sys2Proof/Proofs/HandOffs.lean ====
section
/-! PROOF. Voiding, recirculation marking and emptying of one record (R6 to R8): lost entries port by port, the record that
each state's hand-off leaves, and what a departure and the completion test read and write. -/

namespace Sys2Proof.Machine

/-! ## Writing a record twice, or with what it holds -/

@[simp] theorem State.setRecord_setRecord (s : State) (p : PocketNo) (r r' : Option Part) :
    (s.setRecord p r).setRecord p r' = s.setRecord p r' := by
  simp [State.setRecord, Vector.set_set]

theorem State.setRecord_of_record {s : State} {p : PocketNo} {r : Option Part} (h : s.record p = r) :
    s.setRecord p r = s := by
  subst h; simp [State.setRecord, State.record]

/-- What a port's change depends on is the port it is given. -/
theorem State.modPort_congr {s : State} {i : PortId} {f g : MeterPort → MeterPort} (h : f (s.port i) = g (s.port i)) :
    s.modPort i f = s.modPort i g := by
  cases i with
  | a => exact congrArg (fun m => { s with portA := m }) h
  | b => exact congrArg (fun m => { s with portB := m }) h

theorem State.modPort_of_fixed {s : State} {i : PortId} {f : MeterPort → MeterPort} (h : f (s.port i) = s.port i) :
    s.modPort i f = s :=
  (State.modPort_congr (g := id) h).trans (by cases i <;> rfl)

@[simp] theorem State.record_modPort (s : State) (i : PortId) (f : MeterPort → MeterPort) (p : PocketNo) :
    (s.modPort i f).record p = s.record p := by
  rw [State.record, State.modPort_ptk, State.record]

theorem State.modPort_setRecord (s : State) (i : PortId) (f : MeterPort → MeterPort) (p : PocketNo) (r : Option Part) :
    (s.setRecord p r).modPort i f = (s.modPort i f).setRecord p r := by
  cases i <;> rfl

/-! ## Entries lost (R56, R57) -/

/-- Whether a port's outstanding list names a pocket. -/
def MeterPort.names (m : MeterPort) (p : PocketNo) : Bool := m.entries.any fun e => e.pocket == p

theorem MeterPort.naming_eq_nil_iff (m : MeterPort) (p : PocketNo) : m.naming p = [] ↔ m.names p = false := by
  simp [MeterPort.naming, MeterPort.names]

/-- A port after a pocket's entries on it are lost (R56). -/
def MeterPort.lose (m : MeterPort) (p : PocketNo) : MeterPort :=
  if m.naming p = [] then m
  else { m.without p with counts := { m.counts with lost := satAdd m.counts.lost (m.naming p).length } }

/-- A record whose results are LOST at the stations named by the flags (R56). -/
def Part.withLost (r : Part) (a b : Bool) : Part :=
  { r with
    measure := if a then some .lost else r.measure
    verify := if b then some .lost else r.verify }

theorem Part.setResult_lost_eq_withLost (r : Part) (a b : Bool) :
    (if b then (if a then r.setResult .a .lost else r).setResult .b .lost else if a then r.setResult .a .lost else r) =
      r.withLost a b := by
  cases a <;> cases b <;> rfl

/-- A port that does not name a pocket loses nothing of it. -/
theorem MeterPort.lose_of_not_named {m : MeterPort} {p : PocketNo} (h : m.names p = false) : m.lose p = m :=
  if_pos ((m.naming_eq_nil_iff p).mpr h)

/-- A lost entry leaves its port, and the record of its pocket takes LOST exactly where there was one (R56). -/
theorem loseEntry_of_some {s : State} {p : PocketNo} {r : Part} (h : s.record p = some r) (i : PortId) :
    loseEntry s i p =
      (s.modPort i fun m => m.lose p).setRecord p (some (if (s.port i).names p then r.setResult i .lost else r)) := by
  unfold loseEntry
  split
  · next none_named =>
    have unnamed := ((s.port i).naming_eq_nil_iff p).mp none_named
    rw [if_neg (Bool.eq_false_iff.mp unnamed), State.modPort_of_fixed (MeterPort.lose_of_not_named unnamed),
      State.setRecord_of_record h]
  · next named =>
    have names : (s.port i).names p = true := Bool.of_not_eq_false (mt ((s.port i).naming_eq_nil_iff p).mpr named)
    rw [if_pos names, ← modPart_of_some ((State.record_modPort s i _ p).trans h) fun r => r.setResult i .lost]
    exact congrArg (State.modPart · p _) (State.modPort_congr (if_neg named).symm)

/-- Losing a pocket's entries on both ports: each port loses its own, and the record takes LOST where an entry went (R56). -/
theorem loseEntries_of_some {s : State} {p : PocketNo} {r : Part} (h : s.record p = some r) :
    loseEntries s p =
      { s with portA := s.portA.lose p, portB := s.portB.lose p }.setRecord p
        (some (r.withLost (s.portA.names p) (s.portB.names p))) := by
  rw [loseEntries, loseEntry_of_some h, loseEntry_of_some (State.record_setRecord_same _ p _),
    State.modPort_setRecord, State.setRecord_setRecord, Part.setResult_lost_eq_withLost]
  rfl

/-! ## The record after its hand-off -/

@[simp] theorem Part.voided_withLost (r : Part) (a b : Bool) : (r.withLost a b).voided = r.voided := rfl

theorem voidPocket_of_none {s : State} {p : PocketNo} (h : s.record p = none) : voidPocket s p = s := by
  simp only [voidPocket, h]

theorem recircPocket_of_none {s : State} {p : PocketNo} (h : s.record p = none) : recircPocket s p = s := by
  simp only [recircPocket, h]

theorem emptyPocket_of_none {s : State} {p : PocketNo} (h : s.record p = none) : emptyPocket s p = s := by
  simp only [emptyPocket, h]

theorem voidPocket_of_void {s : State} {p : PocketNo} {r : Part} (h : s.record p = some r) (v : r.state = .void) :
    voidPocket s p = s := by
  simp only [voidPocket, h, if_pos v]

/-- Voiding writes the voided record over what the hand-off left (R7). -/
theorem voidPocket_of_handOff {s u : State} {p : PocketNo} {r r' : Part} (h : s.record p = some r) (v : r.state ≠ .void)
    (out : handOff s p r.state = u.setRecord p (some r')) : voidPocket s p = u.setRecord p (some r'.voided) := by
  simp only [voidPocket, h, if_neg v, out]
  rw [modPart_of_some (State.record_setRecord_same u p _), State.setRecord_setRecord]

/-- Marking writes the marked record over what the hand-off left (R8). -/
theorem recircPocket_of_handOff {s u : State} {p : PocketNo} {r r' : Part} (h : s.record p = some r)
    (out : handOff s p r.state = u.setRecord p (some r')) : recircPocket s p = u.setRecord p (some r'.recirculated) := by
  simp only [recircPocket, h, out]
  rw [modPart_of_some (State.record_setRecord_same u p _), State.setRecord_setRecord]

/-- A hand-off that leaves the track as it is: the record is voided or marked in the state after it. -/
theorem void_and_recirc_of_track_kept {s u : State} {p : PocketNo} {r : Part} (h : s.record p = some r)
    (v : r.state ≠ .void) (out : handOff s p r.state = u) (kept : u.ptk = s.ptk) :
    voidPocket s p = u.setRecord p (some r.voided) ∧ recircPocket s p = u.setRecord p (some r.recirculated) := by
  have same : u.record p = some r := by rw [State.record, kept]; exact h
  have out' : handOff s p r.state = u.setRecord p (some r) := by rw [out, State.setRecord_of_record same]
  exact ⟨voidPocket_of_handOff h v out', recircPocket_of_handOff h out'⟩

@[simp] theorem release_ptk (s : State) (b : SortBin) : (release s b).ptk = s.ptk := by
  rw [release_frame]

/-! ## Emptying (R6, R162) -/

@[simp] theorem departure_ptk (s : State) (k : Option BankId) : (departure s k).ptk = s.ptk := by rw [departure_frame]
@[simp] theorem departure_bins (s : State) (k : Option BankId) : (departure s k).bins = s.bins := by rw [departure_frame]
@[simp] theorem departure_gates (s : State) (k : Option BankId) : (departure s k).gates = s.gates := by rw [departure_frame]
@[simp] theorem departure_portA (s : State) (k : Option BankId) : (departure s k).portA = s.portA := by rw [departure_frame]
@[simp] theorem departure_portB (s : State) (k : Option BankId) : (departure s k).portB = s.portB := by rw [departure_frame]
@[simp] theorem departure_drm (s : State) (k : Option BankId) : (departure s k).drm = s.drm := by rw [departure_frame]
@[simp] theorem departure_trc (s : State) (k : Option BankId) : (departure s k).trc = s.trc := by rw [departure_frame]

/-- A departure is reported to the tagged bank alone (R6). -/
theorem departure_bank_other (s : State) (k : BankId) :
    (departure s (some k)).bank (otherBank k) = s.bank (otherBank k) := by
  simp only [departure]
  split <;> cases k <;> rfl

/-- No record counts as occupied exactly when every pocket is EMPTY. -/
theorem occupiedCount_eq_zero_iff (s : State) : occupiedCount s = 0 ↔ ∀ p, s.record p = none := by
  simp [occupiedCount, allPockets, List.length_eq_zero_iff, List.filter_eq_nil_iff]

/-- The action is complete after the test exactly when it was before, or the ring is empty while TRIPPED (R162). -/
theorem completionTest_complete_iff (s : State) :
    (completionTest s).trc.complete = true ↔
      s.trc.complete = true ∨ (s.ptk.opState = .tripped ∧ ∀ p, s.record p = none) := by
  rw [← occupiedCount_eq_zero_iff, completionTest]
  split
  · next h =>
    obtain ⟨tripped, -, empty⟩ := h
    simp [tripped, empty]
  · next h =>
    refine ⟨.inl, fun e => e.elim id fun ⟨tripped, empty⟩ => ?_⟩
    by_contra incomplete
    exact h ⟨tripped, Bool.eq_false_iff.mpr incomplete, empty⟩

/-- A ring without one pocket's record is empty exactly when every other pocket is EMPTY. -/
theorem setRecord_none_all_empty_iff (s : State) (p : PocketNo) :
    (∀ q, (s.setRecord p none).record q = none) ↔ ∀ q, q ≠ p → s.record q = none := by
  refine forall_congr' fun q => ?_
  by_cases e : q = p
  · simp [e]
  · simp [e, State.record_setRecord_ne s (Ne.symm e)]

/-- What emptying leaves: the departure's banks and attention flags, the pocket EMPTY, and the completion test's flag. -/
theorem emptyPocket_of_some {s : State} {p : PocketNo} {r : Part} (h : s.record p = some r) :
    emptyPocket s p =
      { (departure s r.tag).setRecord p none with
        trc := { s.trc with complete := (emptyPocket s p).trc.complete } } := by
  simp only [emptyPocket, h]
  rw [completionTest_frame, State.setRecord_trc, departure_trc]

@[simp] theorem emptyPocket_bins (s : State) (p : PocketNo) : (emptyPocket s p).bins = s.bins := by rw [emptyPocket_frame]
@[simp] theorem emptyPocket_gates (s : State) (p : PocketNo) : (emptyPocket s p).gates = s.gates := by rw [emptyPocket_frame]
@[simp] theorem emptyPocket_portA (s : State) (p : PocketNo) : (emptyPocket s p).portA = s.portA := by rw [emptyPocket_frame]
@[simp] theorem emptyPocket_portB (s : State) (p : PocketNo) : (emptyPocket s p).portB = s.portB := by rw [emptyPocket_frame]
@[simp] theorem emptyPocket_drm (s : State) (p : PocketNo) : (emptyPocket s p).drm = s.drm := by rw [emptyPocket_frame]

/-- The banks after emptying are those the departure report leaves (R6). -/
theorem emptyPocket_bank {s : State} {p : PocketNo} {r : Part} (h : s.record p = some r) (k : BankId) :
    (emptyPocket s p).bank k = (departure s r.tag).bank k := by
  rw [emptyPocket_of_some h]; cases k <;> rfl

theorem emptyPocket_svl {s : State} {p : PocketNo} {r : Part} (h : s.record p = some r) :
    (emptyPocket s p).svl = (departure s r.tag).svl := by
  rw [emptyPocket_of_some h]; rfl

theorem emptyPocket_record_self (s : State) (p : PocketNo) : (emptyPocket s p).record p = none := by
  rcases h : s.record p with _ | r
  · rw [emptyPocket_of_none h, h]
  · rw [emptyPocket_of_some h]
    exact State.record_setRecord_same (departure s r.tag) p none

theorem emptyPocket_record_ne (s : State) {p q : PocketNo} (ne : q ≠ p) : (emptyPocket s p).record q = s.record q := by
  rcases h : s.record p with _ | r
  · rw [emptyPocket_of_none h]
  · rw [emptyPocket_of_some h]
    calc ((departure s r.tag).setRecord p none).record q
        = (departure s r.tag).record q := State.record_setRecord_ne _ ne.symm _
      _ = s.record q := by simp only [State.record, departure_ptk]

theorem emptyPocket_complete_iff {s : State} {p : PocketNo} {r : Part} (h : s.record p = some r) :
    (emptyPocket s p).trc.complete = true ↔
      s.trc.complete = true ∨ (s.ptk.opState = .tripped ∧ ∀ q, q ≠ p → s.record q = none) := by
  simp only [emptyPocket, h]
  rw [completionTest_complete_iff, setRecord_none_all_empty_iff, State.setRecord_trc, departure_trc,
    State.setRecord_ptk_opState, departure_ptk]
  simp only [State.record, departure_ptk]

/-- Settles O45: the EMPTY pocket, then the hand-off of each state of a record, then emptying. -/
theorem voidingAndMarkingHandOff : Obligations.VoidingAndMarkingHandOff := by
  unfold Obligations.VoidingAndMarkingHandOff
  intro s p
  refine ⟨fun h => ⟨voidPocket_of_none h, recircPocket_of_none h, emptyPocket_of_none h⟩, fun r h => ?_⟩
  refine ⟨fun v => voidPocket_of_void h v, fun plain => ?plain, fun b graded => ?graded, fun held => ?held,
    fun measuring => ?measuring, ?emptying⟩
  case plain =>
    have notVoid : r.state ≠ .void := by rcases plain with e | e | e <;> simp [e]
    have nothing : handOff s p r.state = s := by rcases plain with e | e | e <;> rw [e] <;> rfl
    exact void_and_recirc_of_track_kept h notVoid nothing rfl
  case graded =>
    exact void_and_recirc_of_track_kept h (by simp [graded]) (by rw [graded]; rfl) (release_ptk s b)
  case held =>
    exact void_and_recirc_of_track_kept h (by simp [held]) (by rw [held]; rfl) rfl
  case measuring =>
    have out := (congrArg (handOff s p) measuring).trans (loseEntries_of_some h)
    have voided := voidPocket_of_handOff h (by simp [measuring]) out
    have marked := recircPocket_of_handOff h out
    rw [Part.voided_withLost] at voided
    exact ⟨voided, marked⟩
  case emptying =>
    refine ⟨_, rfl, emptyPocket_record_self s p, fun q ne => emptyPocket_record_ne s ne, ?untagged, ?tagged, ?frame⟩
    case untagged =>
      intro untagged
      have bank := emptyPocket_bank h
      have svl := emptyPocket_svl h
      rw [untagged] at bank svl
      exact ⟨bank .a, bank .b, svl⟩
    case tagged =>
      intro k tagged
      rw [← tagged]
      exact ⟨emptyPocket_bank h k, (emptyPocket_bank h _).trans (tagged ▸ departure_bank_other s k), emptyPocket_svl h⟩
    case frame =>
      exact ⟨emptyPocket_bins s p, emptyPocket_gates s p, emptyPocket_portA s p, emptyPocket_portB s p,
        emptyPocket_drm s p, congrArg State.trc (emptyPocket_frame s p), emptyPocket_complete_iff h⟩

end Sys2Proof.Machine
end

