-- ==== Sys2Proof/Proofs/AuxAssignments.lean ====
section
/-! PROOF. SET_AUX (R36): the function codes of Table 2.2 and what the owner answers at each of its three checks. -/

namespace Sys2Proof.Machine

/-! ## The function codes (Table 2.2) -/

@[simp] theorem auxFnOf_code (f : AuxFn) : auxFnOf f.code = some f := by
  cases f <;> rfl

theorem AuxFn.code_injective : Function.Injective AuxFn.code := fun f g h =>
  Option.some.inj (by rw [← auxFnOf_code f, h, auxFnOf_code])

/-- Exactly the bytes above 7 name no function. -/
theorem auxFnOf_eq_none_iff {b : Byte} : auxFnOf b = none ↔ 7 < b.toNat :=
  List.getElem?_eq_none_iff

/-- Every byte within 0 to 7 is a function's code. -/
theorem exists_code_of_le {b : Byte} (h : b.toNat ≤ 7) : ∃ f : AuxFn, f.code = b := by
  have byNumber : ∀ n : Fin 8, ∃ f : AuxFn, f.code = BitVec.ofNat 8 n.val := by
    intro n
    fin_cases n
    exacts [⟨.off, rfl⟩, ⟨.ready, rfl⟩, ⟨.refReq, rfl⟩, ⟨.drift, rfl⟩, ⟨.tripped, rfl⟩, ⟨.anyFull, rfl⟩,
      ⟨.holdWait, rfl⟩, ⟨.meterFault, rfl⟩]
  simpa using byNumber ⟨b.toNat, by omega⟩

/-- Code 0 is OFF's alone. -/
theorem AuxFn.code_ne_zero (f : AuxFn) : (f.code != 0) = (f != .off) := by
  cases f <;> rfl

/-- A function other than OFF repeats exactly where a code other than 0 does. -/
theorem auxRepeats_iff (fs : List AuxFn) :
    auxRepeats fs = true ↔ ¬((fs.map AuxFn.code).filter fun x => x != 0).Nodup := by
  have codes : (fs.map AuxFn.code).filter (fun x => x != 0) = (fs.filter fun f => f != .off).map AuxFn.code := by
    simp only [List.filter_map, Function.comp_def, AuxFn.code_ne_zero]
  rw [codes, List.nodup_map_iff AuxFn.code_injective]
  simp only [auxRepeats, Bool.not_eq_true', decide_eq_false_iff_not]

/-! ## The owner's answers, in the order of its checks -/

theorem exec_setAux_of_takes {s : State} (taken : takesRequest s = true) (a b c d : Byte) :
    exec (.setAux (bodyOf [a, b, c, d])) s =
      .next ((ownSetAux [a, b, c, d] s).1.answer 0x18 (ownSetAux [a, b, c, d] s).2) :=
  congrArg Host.Outcome.next (request_bodyOf taken rfl (by decide : 4 < 256))

theorem ownSetAux_of_run {s : State} (h : s.ptk.opState = .run) (a b c d : Byte) :
    ownSetAux [a, b, c, d] s = (s, ⟨.wrongState, auxPayload s⟩) := by
  simp only [ownSetAux, if_pos h]

theorem ownSetAux_of_code_above {s : State} (h : s.ptk.opState ≠ .run) {a b c d : Byte}
    (above : ∃ x ∈ [a, b, c, d], 7 < x.toNat) :
    ownSetAux [a, b, c, d] s = (s, ⟨.badValue, auxPayload s⟩) := by
  obtain ⟨x, mem, large⟩ := above
  have noFunction : auxFnOf x = none := auxFnOf_eq_none_iff.mpr large
  simp only [ownSetAux, if_neg h]
  split
  · next ha hb hc hd =>
    have allFunctions : ∀ y ∈ [a, b, c, d], auxFnOf y ≠ none := by simp [ha, hb, hc, hd]
    exact absurd noFunction (allFunctions x mem)
  · rfl

/-- Four codes within range: the check for a repetition decides. -/
theorem ownSetAux_of_codes {s : State} (h : s.ptk.opState ≠ .run) (f g i j : AuxFn) :
    ownSetAux [f.code, g.code, i.code, j.code] s =
      if auxRepeats [f, g, i, j] = true then (s, ⟨.badValue, auxPayload s⟩)
      else
        ({ s with ttp := { s.ttp with aux := #v[f, g, i, j] } }, ⟨.ok, [f.code, g.code, i.code, j.code]⟩) := by
  simp only [ownSetAux, if_neg h, auxFnOf_code]
  rfl

/-- Settles O13: RUN, a code above 7, and then four functions, which repeat or are assigned. -/
theorem setAuxChecksAndAssigns : Obligations.SetAuxChecksAndAssigns := by
  unfold Obligations.SetAuxChecksAndAssigns
  intro a b c d s taken
  rw [exec_setAux_of_takes taken]
  refine ⟨fun run => ?run, fun h above => ?above, fun h range repeats => ?repeats, fun h range distinct => ?assigned⟩
  case run => rw [ownSetAux_of_run run]; rfl
  case above => rw [ownSetAux_of_code_above h above]; rfl
  all_goals
    obtain ⟨f, rfl⟩ := exists_code_of_le (range a (by simp))
    obtain ⟨g, rfl⟩ := exists_code_of_le (range b (by simp))
    obtain ⟨i, rfl⟩ := exists_code_of_le (range c (by simp))
    obtain ⟨j, rfl⟩ := exists_code_of_le (range d (by simp))
    rw [ownSetAux_of_codes h]
  case repeats => rw [if_pos ((auxRepeats_iff [f, g, i, j]).mpr repeats)]; rfl
  case assigned =>
    rw [if_neg fun e => (auxRepeats_iff [f, g, i, j]).mp e distinct]
    exact ⟨#v[f, g, i, j], rfl, rfl⟩

end Sys2Proof.Machine
end

