-- ==== Sys2Proof/Proofs/StoredResults.lean ====
section
/-! PROOF. The stored result of a taken answer: what each condition of R52 stores, and the temperature that R53 settles for
an OK result. -/

namespace Sys2Proof.Machine

/-! ## The temperature of an OK result (R53) -/

theorem clampTemperature_of_below {t : Int} (below : t < -4000) : clampTemperature t = -4000 := if_pos below

theorem clampTemperature_of_above {t : Int} (above : 15000 < t) : clampTemperature t = 15000 := by
  rw [clampTemperature, if_neg (by omega), if_pos above]

theorem clampTemperature_of_within {t : Int} (low : ¬t < -4000) (high : ¬15000 < t) : clampTemperature t = t := by
  rw [clampTemperature, if_neg low, if_neg high]

theorem settleTemperature_absent (held : Option Int) (tref : Int) :
    settleTemperature held tref (-32768) = (held.getD tref, held) := rfl

theorem settleTemperature_of_reported (held : Option Int) (tref : Int) {t : Int} (reported : t ≠ -32768) :
    settleTemperature held tref t = (clampTemperature t, some (clampTemperature t)) := if_neg reported

/-! ## The conditions on an answer (R52) -/

/-- The range of mantissa and exponent that R52 asks of an OK result. -/
def ResultFrame.InRange (f : ResultFrame) : Prop :=
  1000000 ≤ f.mantissa ∧ f.mantissa ≤ 9999999 ∧ -3 ≤ f.exponent ∧ f.exponent ≤ 6

/-- The model tests for the values out of the range. -/
theorem ResultFrame.not_inRange_iff (f : ResultFrame) :
    ¬f.InRange ↔ f.mantissa < 1000000 ∨ 9999999 < f.mantissa ∨ f.exponent < -3 ∨ 6 < f.exponent := by
  rw [ResultFrame.InRange]; omega

/-- A status is one of the four codes of Table 10.6, or above them all. -/
theorem status_cases (b : Byte) : 3 < b.toNat ∨ b = 0 ∨ b = 1 ∨ b = 2 ∨ b = 3 := by
  bv_omega

section
variable (held : Option Int) (tref : Int) {p : PocketNo} {f : ResultFrame}

theorem storedResult_of_other_pocket (other : f.pocket.toNat ≠ p.val) :
    storedResult held tref p f = (.invalid, held) := if_pos other

theorem storedResult_of_status_above (named : f.pocket.toNat = p.val) (above : 3 < f.status.toNat) :
    storedResult held tref p f = (.invalid, held) := by
  have notCode : ∀ b : Byte, b.toNat ≤ 3 → f.status ≠ b := fun b le e => absurd above (by rw [e]; omega)
  rw [storedResult, if_neg (not_not.mpr named), if_neg (notCode 1 (by decide)), if_neg (notCode 2 (by decide)),
    if_neg (notCode 3 (by decide)), if_pos (notCode 0 (by decide))]

theorem storedResult_of_status_open (named : f.pocket.toNat = p.val) (code : f.status = 1) :
    storedResult held tref p f = (.openCircuit, held) := by
  simp [storedResult, named, code]

theorem storedResult_of_status_short (named : f.pocket.toNat = p.val) (code : f.status = 2) :
    storedResult held tref p f = (.short, held) := by
  simp [storedResult, named, code]

theorem storedResult_of_status_overload (named : f.pocket.toNat = p.val) (code : f.status = 3) :
    storedResult held tref p f = (.overload, held) := by
  simp [storedResult, named, code]

theorem storedResult_of_out_of_range (named : f.pocket.toNat = p.val) (code : f.status = 0) (out : ¬f.InRange) :
    storedResult held tref p f = (.invalid, held) := by
  simp [storedResult, named, code, f.not_inRange_iff.mp out]

theorem storedResult_of_in_range (named : f.pocket.toNat = p.val) (code : f.status = 0) (range : f.InRange) :
    storedResult held tref p f =
      (.ok f.mantissa f.exponent (settleTemperature held tref f.temperature).1,
        (settleTemperature held tref f.temperature).2) := by
  have inside := mt f.not_inRange_iff.mpr (not_not.mpr range)
  simp [storedResult, named, code, if_neg inside]

end

/-- Settles O21: the pocket, then the status codes; for status 0 the range, and then the four forms of the temperature. -/
theorem storedResultAndTemperature : Obligations.StoredResultAndTemperature := by
  unfold Obligations.StoredResultAndTemperature
  intro held tref p f
  by_cases named : f.pocket.toNat = p.val
  case neg => rw [storedResult_of_other_pocket held tref named, if_pos named]
  rw [if_neg (not_not.mpr named)]
  rcases status_cases f.status with above | code | code | code | code
  · rw [storedResult_of_status_above held tref named above, if_pos above]
  · by_cases range : f.InRange
    case neg =>
      rw [storedResult_of_out_of_range held tref named code range, if_neg (by simp [code]),
        if_pos ⟨congrArg BitVec.toNat code, range⟩]
    rw [storedResult_of_in_range held tref named code range]
    rw [ResultFrame.InRange] at range
    by_cases absent : f.temperature = -32768
    · simp [code, range, absent, settleTemperature_absent]
    rw [settleTemperature_of_reported held tref absent]
    by_cases below : f.temperature < -4000
    · simp [code, range, absent, below, clampTemperature_of_below]
    by_cases high : 15000 < f.temperature
    · simp [code, range, absent, below, high, clampTemperature_of_above]
    · simp [code, range, absent, below, high, clampTemperature_of_within below high]
  · simp [storedResult_of_status_open held tref named code, code]
  · simp [storedResult_of_status_short held tref named code, code]
  · simp [storedResult_of_status_overload held tref named code, code]

end Sys2Proof.Machine
end

