-- ==== Sys2Proof/Proofs/MeterRequests.lean ====
section
/-! PROOF. SET_METER and RESTORE_METER (R59, R60): the port codes of Table 10.8 and what the two owners answer at each of
their checks. -/

namespace Sys2Proof.Machine

/-! ## The port codes (Table 10.8) -/

@[simp] theorem portOf_portCode (id : PortId) : portOf (portCode id) = some id := by
  cases id <;> rfl

theorem portOf_eq_none {b : Byte} (notA : b ≠ 1) (notB : b ≠ 2) : portOf b = none := by
  rw [portOf, if_neg notA, if_neg notB]

/-! ## SET_METER's answers, in the order of its checks (R60) -/

theorem exec_setMeter_of_takes {s : State} (taken : takesRequest s = true) (port ms : Byte) :
    exec (.setMeter (bodyOf [port, ms])) s =
      .next ((ownSetMeter [port, ms] s).1.answer 0x20 (ownSetMeter [port, ms] s).2) :=
  congrArg Host.Outcome.next (request_bodyOf taken rfl (by decide : 2 < 256))

theorem ownSetMeter_of_no_port {port : Byte} (noPort : portOf port = none) (ms : Byte) (s : State) :
    ownSetMeter [port, ms] s = (s, ⟨.badValue, []⟩) := by
  simp only [ownSetMeter, noPort]; rfl

theorem ownSetMeter_of_zero (id : PortId) (s : State) :
    ownSetMeter [portCode id, 0] s = (s, ⟨.badValue, []⟩) := by
  simp only [ownSetMeter, portOf_portCode]; rfl

theorem ownSetMeter_of_absent {id : PortId} {ms : Byte} {s : State} (nonzero : ms ≠ 0)
    (absent : (s.port id).state = .absent) : ownSetMeter [portCode id, ms] s = (s, ⟨.wrongState, []⟩) := by
  simp only [ownSetMeter, portOf_portCode, if_neg nonzero, if_pos absent]; rfl

theorem ownSetMeter_of_fitted {id : PortId} {ms : Byte} {s : State} (nonzero : ms ≠ 0)
    (fitted : (s.port id).state ≠ .absent) :
    ownSetMeter [portCode id, ms] s = (s.modPort id fun m => { m with timeoutMs := ms.toNat }, ⟨.ok, []⟩) := by
  simp only [ownSetMeter, portOf_portCode, if_neg nonzero, if_neg fitted]; rfl

/-! ## RESTORE_METER's answers (R59) -/

theorem exec_restoreMeter_of_takes {s : State} (taken : takesRequest s = true) (port : Byte) :
    exec (.restoreMeter (bodyOf [port])) s =
      .next ((ownRestoreMeter [port] s).1.answer 0x21 (ownRestoreMeter [port] s).2) :=
  congrArg Host.Outcome.next (request_bodyOf taken rfl (by decide : 1 < 256))

theorem ownRestoreMeter_of_no_port {port : Byte} (noPort : portOf port = none) (s : State) :
    ownRestoreMeter [port] s = (s, ⟨.badValue, []⟩) := by
  simp only [ownRestoreMeter, noPort]; rfl

theorem ownRestoreMeter_of_faulted {id : PortId} {s : State} (faulted : (s.port id).state = .faulted) :
    ownRestoreMeter [portCode id] s = (s.modPort id fun m => { m with state := .online }, ⟨.ok, []⟩) := by
  simp only [ownRestoreMeter, portOf_portCode, if_pos faulted]; rfl

theorem ownRestoreMeter_of_not_faulted {id : PortId} {s : State} (other : (s.port id).state ≠ .faulted) :
    ownRestoreMeter [portCode id] s = (s, ⟨.wrongState, []⟩) := by
  simp only [ownRestoreMeter, portOf_portCode, if_neg other]; rfl

/-- Settles O23: SET_METER's port code, timeout and port state, and RESTORE_METER's port code and port state. -/
theorem meterRequestsSetAndRestore : Obligations.MeterRequestsSetAndRestore := by
  unfold Obligations.MeterRequestsSetAndRestore
  intro s taken
  simp only [exec_setMeter_of_takes taken, exec_restoreMeter_of_takes taken]
  refine ⟨fun x ms notA notB => ?noPort, fun id => ?zero, fun id ms nonzero => ⟨fun absent => ?absent, fun fitted => ?set⟩,
    fun id => ⟨fun faulted => ?restore, fun other => ?notFaulted⟩⟩
  case noPort =>
    have noPort := portOf_eq_none notA notB
    rw [ownSetMeter_of_no_port noPort, ownRestoreMeter_of_no_port noPort]
    exact ⟨rfl, rfl⟩
  case zero => rw [ownSetMeter_of_zero]
  case absent => rw [ownSetMeter_of_absent nonzero absent]
  case set => rw [ownSetMeter_of_fitted nonzero fitted]
  case restore => rw [ownRestoreMeter_of_faulted faulted]
  case notFaulted => rw [ownRestoreMeter_of_not_faulted other]

end Sys2Proof.Machine
end

