-- ==== Sys2Proof/Proofs/DeviationArithmetic.lean ====
section
/-! PROOF. The deviation arithmetic (spec/04): how far a rounded quotient lies from the exact one, the clamp and the
agreement of two station deviations, and the guarded window test. -/

namespace Sys2Proof.Machine

/-! ## Rounding (R66) -/

@[simp] theorem roundDiv_neg (n : Int) (d : Nat) : roundDiv (-n) d = -roundDiv n d := by
  simp [roundDiv]

@[simp] theorem roundDiv_zero (d : Nat) : roundDiv 0 d = 0 := by
  simp [roundDiv]

/-- A dividend of 0 has no sign, and its rounded magnitude is 0 as well. -/
theorem roundDiv_natCast (a d : Nat) : roundDiv a d = ((2 * a + d) / (2 * d) : Nat) := by
  rcases Nat.eq_zero_or_pos a with rfl | pos
  · have below : (2 * 0 + d) / (2 * d) = 0 := Nat.div_eq_zero_iff.mpr (by omega)
    simp only [below, Nat.cast_zero, roundDiv_zero]
  · rw [roundDiv, Int.natAbs_natCast, Int.sign_eq_one_of_pos (Int.natCast_pos.mpr pos), one_mul]

theorem natAbs_roundDiv (n : Int) (d : Nat) : (roundDiv n d).natAbs = (2 * n.natAbs + d) / (2 * d) := by
  obtain ⟨a, rfl | rfl⟩ := n.eq_nat_or_neg <;>
    simp only [roundDiv_neg, roundDiv_natCast, Int.natAbs_neg, Int.natAbs_natCast]

/-- The rounded quotient keeps within a bound that the exact quotient keeps within. -/
theorem natAbs_roundDiv_le {n : Int} {d b : Nat} (h : n.natAbs ≤ b * d) : (roundDiv n d).natAbs ≤ b := by
  rw [natAbs_roundDiv]
  rcases Nat.eq_zero_or_pos d with rfl | pos
  · simp
  · exact Nat.le_of_lt_succ (Nat.div_lt_of_lt_mul (by linarith))

/-- The idea of R66 on magnitudes: with `2a + d = 2d·q + r` and `r < 2d`, twice the error `a - q·d` is `r - d`. It lies in
`[-d, d)`, and an error of one half is the case `r = 0`, where the rounded quotient is the greater. -/
theorem roundDiv_natCast_error {d : Nat} (pos : 0 < d) (a : Nat) :
    2 * ((a : Int) - roundDiv a d * d).natAbs ≤ d ∧
      (2 * ((a : Int) - roundDiv a d * d).natAbs = d → (a : Int).natAbs < (roundDiv a d * d).natAbs) := by
  rw [roundDiv_natCast]
  generalize quotient : (2 * a + d) / (2 * d) = q
  have division : 2 * (q * d) + (2 * a + d) % (2 * d) = 2 * a + d := by
    rw [show 2 * (q * d) = 2 * d * q by ring, ← quotient, Nat.div_add_mod]
  have remainder : (2 * a + d) % (2 * d) < 2 * d := Nat.mod_lt _ (by omega)
  rw [← Nat.cast_mul]
  omega

/-- Settles O25: the sign is taken out, and the magnitudes are rounded as the natural numbers are. -/
theorem roundingIsNearestTiesAway : Obligations.RoundingIsNearestTiesAway := by
  unfold Obligations.RoundingIsNearestTiesAway
  intro n d pos
  obtain ⟨a, sign⟩ := n.eq_nat_or_neg
  obtain ⟨near, tie⟩ := roundDiv_natCast_error pos a
  rcases sign with rfl | rfl
  · exact ⟨near, tie, roundDiv_neg _ d, roundDiv_zero d⟩
  · have error : -(a : Int) - roundDiv (-a) d * d = -(a - roundDiv a d * d) := by rw [roundDiv_neg]; ring
    rw [error, Int.natAbs_neg]
    refine ⟨near, fun half => ?_, roundDiv_neg _ d, roundDiv_zero d⟩
    simpa [roundDiv_neg] using tie half

/-! ## The stations' deviations (R67 to R71) and the product arithmetic (Table 4.5) -/

section
variable {lot : Lot} {m : Reading} {d2 : Deviation} (o : OffsetPair)

theorem stationDeviation_of_over (h : stage1 m.mantissa m.exponent lot = .over) :
    stationDeviation m.mantissa m.exponent m.temperature lot o = .inl .over := by
  rw [stationDeviation, h]

theorem stationDeviation_of_under (h : stage1 m.mantissa m.exponent lot = .under) :
    stationDeviation m.mantissa m.exponent m.temperature lot o = .inl .under := by
  rw [stationDeviation, h]

theorem stationDeviation_of_value {raw : Int} (h : stage1 m.mantissa m.exponent lot = .value raw) :
    stationDeviation m.mantissa m.exponent m.temperature lot o =
      .inr (clampDev (raw - roundDiv (lot.tcr * (m.temperature - lot.tref)) 100 - o.applied)) := by
  rw [stationDeviation, h]; rfl

variable {o}

/-- A range verdict on the MEASURE reading is the outcome, whatever the VERIFY result is. -/
theorem productOutcome_of_measure_verdict {r : RawOutcome}
    (h : stationDeviation m.mantissa m.exponent m.temperature lot o = .inl r) (w : Option Reading) :
    productOutcome lot o m w = rangeVerdict r none := by
  rw [productOutcome, h]

theorem productOutcome_of_verify_off (h : stationDeviation m.mantissa m.exponent m.temperature lot o = .inr d2) :
    productOutcome lot o m none = .value d2 := by
  rw [productOutcome, h]

theorem productOutcome_of_verify_verdict {v : Reading} {r : RawOutcome}
    (h : stationDeviation m.mantissa m.exponent m.temperature lot o = .inr d2)
    (verdict : stationDeviation v.mantissa v.exponent v.temperature lot o = .inl r) :
    productOutcome lot o m (some v) = rangeVerdict r (some d2) := by
  simp only [productOutcome, h, verdict]

theorem productOutcome_of_both {v : Reading} {d3 : Deviation}
    (h : stationDeviation m.mantissa m.exponent m.temperature lot o = .inr d2)
    (second : stationDeviation v.mantissa v.exponent v.temperature lot o = .inr d3) :
    productOutcome lot o m (some v) = stage5 d2 d3 lot.agreement := by
  simp only [productOutcome, h, second]

end

/-! ## Agreement and mean (R72, R73) -/

theorem stage5_of_apart {d2 d3 : Deviation} {limit : Nat} (apart : limit < (d2.ppm - d3.ppm).natAbs) :
    stage5 d2 d3 limit = .unstable { ppm := d2.ppm, saturated := d2.saturated || d3.saturated } := if_pos apart

theorem stage5_of_agreeing {d2 d3 : Deviation} {limit : Nat} (agreeing : (d2.ppm - d3.ppm).natAbs ≤ limit) :
    stage5 d2 d3 limit =
      .value { ppm := roundDiv (d2.ppm + d3.ppm) 2, saturated := d2.saturated || d3.saturated } :=
  if_neg (by omega)

/-- The rounded mean of two values lies within the bound that both lie within. -/
theorem natAbs_mean_le {x y : Int} {b : Nat} (hx : x.natAbs ≤ b) (hy : y.natAbs ≤ b) :
    (roundDiv (x + y) 2).natAbs ≤ b :=
  natAbs_roundDiv_le (by omega)

/-- Settles O27: the clamp by its definition, the product arithmetic by the outcomes of the two first stages, and stage 5 by
the difference against the limit. -/
theorem clampAgreementAndMean : Obligations.ClampAgreementAndMean := by
  unfold Obligations.ClampAgreementAndMean
  refine ⟨fun v => rfl, fun lot o m v => ⟨fun high w => ?above, fun low w => ?below, ?formed⟩,
    fun d2 d3 limit range2 range3 => ⟨by omega, stage5_of_apart, fun agreeing =>
      ⟨stage5_of_agreeing agreeing, natAbs_mean_le range2 range3⟩⟩⟩
  case above => exact productOutcome_of_measure_verdict (stationDeviation_of_over o high) w
  case below => exact productOutcome_of_measure_verdict (stationDeviation_of_under o low) w
  case formed =>
    rintro d2 ⟨raw2, value2, rfl⟩
    have measured := stationDeviation_of_value o value2
    refine ⟨productOutcome_of_verify_off measured, fun high => ?_, fun low => ?_, ?_⟩
    · exact productOutcome_of_verify_verdict measured (stationDeviation_of_over o high)
    · exact productOutcome_of_verify_verdict measured (stationDeviation_of_under o low)
    · rintro d3 ⟨raw3, value3, rfl⟩
      exact productOutcome_of_both measured (stationDeviation_of_value o value3)

/-! ## The guard and the window test (R77, R78) -/

/-- Between equal offsets the guard is the lot's guard band, which a legal lot keeps below the limit. -/
theorem effectiveGuard_of_equal_offsets {lot : Lot} {o : OffsetPair} (equal : o.applied = o.target)
    (legal : lot.guardBand ≤ 5000) : effectiveGuard lot o = lot.guardBand := by
  rw [effectiveGuard, equal]
  omega

theorem WindowEntry.hits_iff (w : WindowEntry) (g : Nat) (d : Int) :
    w.hits g d = true ↔ w.valid = true ∧ w.lower + g ≤ d ∧ d ≤ w.upper - g := by
  simp only [WindowEntry.hits, Bool.and_eq_true, decide_eq_true_eq, and_assoc]

/-- In a window narrower than twice the guard the guarded bounds have crossed. -/
theorem WindowEntry.hits_of_narrow {w : WindowEntry} {g : Nat} (narrow : w.upper - w.lower < 2 * g) (d : Int) :
    w.hits g d = false := by
  rw [Bool.eq_false_iff, ne_eq, w.hits_iff]
  omega

/-- Settles O28: the guard of equal offsets, and the window test by its guarded bounds. -/
theorem guardAndWindowTest : Obligations.GuardAndWindowTest := by
  unfold Obligations.GuardAndWindowTest
  exact ⟨fun _ _ => ⟨rfl, effectiveGuard_of_equal_offsets⟩,
    fun w g d => ⟨w.hits_iff g d, fun narrow => WindowEntry.hits_of_narrow narrow d⟩⟩

end Sys2Proof.Machine
end

