-- ==== Sys2Proof/Proofs/Classification.lean ====
section
/-! PROOF. The window test and the bins it asks for (R97, R98), a raised class and its action (R99 to R102), and the
reference path (R103). -/

namespace Sys2Proof.Machine

/-! ## What the grading of one record leaves to read -/

@[simp] theorem State.bin_setRecord (s : State) (p : PocketNo) (r : Option Part) (b : SortBin) :
    (s.setRecord p r).bin b = s.bin b := rfl

@[simp] theorem State.bin_modBank (s : State) (k : BankId) (f : Bank → Bank) (b : SortBin) :
    (s.modBank k f).bin b = s.bin b := by
  rw [State.bin, State.modBank_bins, State.bin]

@[simp] theorem State.bank_setRecord (s : State) (p : PocketNo) (r : Option Part) (k : BankId) :
    (s.setRecord p r).bank k = s.bank k := by
  cases k <;> rfl

@[simp] theorem State.record_modBank (s : State) (k : BankId) (f : Bank → Bank) (p : PocketNo) :
    (s.modBank k f).record p = s.record p := by
  rw [State.record, State.modBank_ptk, State.record]

@[simp] theorem record_grant (s : State) (b : SortBin) (p : PocketNo) : (grant s b).record p = s.record p := by
  rw [grant_frame]; rfl

/-- A grant neither reads nor writes the records. -/
theorem grant_setRecord (s : State) (p : PocketNo) (r : Option Part) (b : SortBin) :
    grant (s.setRecord p r) b = (grant s b).setRecord p r := by
  simp only [grant, State.bin_setRecord, apply_ite (fun t : State => t.setRecord p r)]
  rfl

/-! ## GRADED with a bin (R100, R103) -/

section
variable {s : State} {p : PocketNo} {w : Part} {b : SortBin} {o : Bool}

theorem gradeInto_sweep (h : s.record p = some w) :
    gradeInto s p .sweep o = s.setRecord p (some { w with state := .graded .sweep }) :=
  modPart_of_some h _

theorem gradeInto_bin (h : s.record p = some w) :
    gradeInto s p (.bin b) o =
      if (s.bin b).grants o then (grant s b).setRecord p (some { w with state := .graded (.bin b) })
      else s.setRecord p (some { w with state := .graded .sweep }) := by
  split
  · next granted =>
    simp only [gradeInto, reserve_eq_some.mpr ⟨granted, rfl⟩]
    exact modPart_of_some ((record_grant s b p).trans h) _
  · next refused =>
    simp only [gradeInto, reserve_eq_none.mpr (Bool.eq_false_iff.mpr refused)]
    exact modPart_of_some h _

/-- A record just written is written over by its grading. -/
theorem gradeInto_sweep_setRecord :
    gradeInto (s.setRecord p (some w)) p .sweep o = s.setRecord p (some { w with state := .graded .sweep }) := by
  rw [gradeInto_sweep (State.record_setRecord_same s p _), State.setRecord_setRecord]

theorem gradeInto_bin_setRecord :
    gradeInto (s.setRecord p (some w)) p (.bin b) o =
      if (s.bin b).grants o then (grant s b).setRecord p (some { w with state := .graded (.bin b) })
      else s.setRecord p (some { w with state := .graded .sweep }) := by
  rw [gradeInto_bin (State.record_setRecord_same s p _), grant_setRecord, State.setRecord_setRecord,
    State.setRecord_setRecord, State.bin_setRecord]

/-- The deviation written over a part that was just GRADED (R103). -/
theorem gradeInto_bin_deviation (h : s.record p = some w) (d : Option Deviation) :
    ((gradeInto s p (.bin b) o).modPart p fun r => { r with deviation := d }) =
      if (s.bin b).grants o then (grant s b).setRecord p (some { w with state := .graded (.bin b), deviation := d })
      else s.setRecord p (some { w with state := .graded .sweep, deviation := d }) := by
  rw [gradeInto_bin h]
  split <;> rw [modPart_of_some (State.record_setRecord_same _ p _), State.setRecord_setRecord]

end

/-! ## The window test (R98) -/

theorem firstMatch_eq_none {k : Bank} {g : Nat} {d : Int} (noHit : ∀ e : Fin 16, (k.entries[e]).hits g d = false) :
    firstMatch k g d = none :=
  List.find?_eq_none.mpr fun e _ => Bool.eq_false_iff.mp (noHit e)

/-- The entry found is the one that matches with no matching entry of a lower number. -/
theorem firstMatch_eq_some {k : Bank} {g : Nat} {d : Int} {e : Fin 16} (hit : (k.entries[e]).hits g d = true)
    (first : ∀ f : Fin 16, f < e → (k.entries[f]).hits g d = false) : firstMatch k g d = some e := by
  rw [firstMatch, List.find?_eq_some_iff_getElem]
  refine ⟨hit, e.val, by simp, by simp, fun j below => ?_⟩
  rw [List.getElem_finRange, first _ (Fin.lt_def.mpr below)]
  rfl

theorem reserveFirst_of_all_refused {s : State} {bins : List SortBin}
    (refused : ∀ b ∈ bins, (s.bin b).grants false = false) : reserveFirst s bins = none := by
  induction bins with
  | nil => rfl
  | cons b bins ih =>
    obtain ⟨head, tail⟩ := List.forall_mem_cons.mp refused
    simp only [reserveFirst, reserve_eq_none.mpr head, ih tail]

/-- The bins before the first that grants are asked in vain. -/
theorem reserveFirst_of_first_grant {s : State} {refused : List SortBin} {b : SortBin} (rest : List SortBin)
    (refuse : ∀ x ∈ refused, (s.bin x).grants false = false) (granted : (s.bin b).grants false = true) :
    reserveFirst s (refused ++ b :: rest) = some (b, grant s b) := by
  induction refused with
  | nil => simp only [List.nil_append, reserveFirst, reserve_eq_some.mpr ⟨granted, rfl⟩]
  | cons x refused ih =>
    obtain ⟨head, tail⟩ := List.forall_mem_cons.mp refuse
    simp only [List.cons_append, reserveFirst, reserve_eq_none.mpr head, ih tail]

/-- The guard of a grading in a bank (R77). -/
abbrev gradingGuard (s : State) (k : BankId) : Nat := effectiveGuard (s.bank k).lot (offsetPair s)

section
variable {s : State} {p : PocketNo} {k : BankId} {r : Part} {d : Deviation} {e : Fin 16}

theorem windowTest_of_no_match (noMatch : firstMatch (s.bank k) (gradingGuard s k) d.ppm = none) :
    windowTest s p k r d = raiseClass s p k r .noMatch (some d) := by
  simp only [windowTest, noMatch]

theorem windowTest_of_exhausted (found : firstMatch (s.bank k) (gradingGuard s k) d.ppm = some e)
    (refused : reserveFirst s (((s.bank k).entries[e]).primary :: ((s.bank k).entries[e]).spill) = none) :
    windowTest s p k r d = raiseClass s p k r .exhausted (some d) := by
  simp only [windowTest, found, refused]

theorem windowTest_of_taken {b : SortBin} (h : s.record p = some r)
    (found : firstMatch (s.bank k) (gradingGuard s k) d.ppm = some e)
    (taken : reserveFirst s (((s.bank k).entries[e]).primary :: ((s.bank k).entries[e]).spill) = some (b, grant s b)) :
    windowTest s p k r d =
      (grant s b).setRecord p (some { r with state := .graded (.bin b), deviation := some d, grade := .byEntry e }) := by
  simp only [windowTest, found, taken]
  exact modPart_of_some ((record_grant s b p).trans h) _

end

/-- Settles O32: the other outcomes by `gradeOutcome` itself; a deviation by the first match and the first grant. -/
theorem firstMatchedEntryTakesTheFirstBin : Obligations.FirstMatchedEntryTakesTheFirstBin := by
  unfold Obligations.FirstMatchedEntryTakesTheFirstBin
  intro s p k r d h
  refine ⟨fun _ => rfl, fun _ => rfl, rfl, fun noHit => ?noMatch, fun e hit first => ⟨fun refused => ?exhausted,
    fun refused b rest bins refuse granted => ?taken⟩⟩
  case noMatch => exact windowTest_of_no_match (firstMatch_eq_none noHit)
  all_goals have found := firstMatch_eq_some hit first
  case exhausted => exact windowTest_of_exhausted found (reserveFirst_of_all_refused refused)
  case taken =>
    have taken := reserveFirst_of_first_grant rest refuse granted
    rw [← bins] at taken
    exact windowTest_of_taken h found taken

/-! ## A raised class and its action (R99 to R102) -/

/-- A class that is raised is counted, and written into the record before its action runs (R99). -/
theorem raiseClass_of_some {s : State} {p : PocketNo} {r : Part} (h : s.record p = some r) (k : BankId) (c : PartClass)
    (d : Option Deviation) :
    raiseClass s p k r c d =
      classAction
        ((s.modCounts k fun n => n.classed c).setRecord p (some { r with deviation := d, grade := .byClass c })) p k r c := by
  have counted : (s.modCounts k fun n => n.classed c).record p = some r := (State.record_modBank s k _ p).trans h
  rw [raiseClass, modPart_of_some counted]

section
variable {s : State} {p : PocketNo} {k : BankId} {r w : Part} {c : PartClass}

theorem classAction_of_bin (kind : ((s.bank k).action c).kind = .bin) :
    classAction s p k r c = gradeInto s p ((s.bank k).action c).dest ((s.bank k).action c).override := by
  simp only [classAction, kind]

theorem classAction_of_retest (h : s.record p = some w) (kind : ((s.bank k).action c).kind = .retest)
    (below : r.retests < (s.bank k).lot.retestLimit) :
    classAction s p k r c = s.setRecord p (some { w with retests := w.retests + 1, state := .retest }) := by
  simp only [classAction, kind, if_pos below]
  exact modPart_of_some h _

theorem classAction_of_retest_limit (kind : ((s.bank k).action c).kind = .retest)
    (limit : (s.bank k).lot.retestLimit ≤ r.retests) :
    classAction s p k r c = gradeInto s p ((s.bank k).action c).dest ((s.bank k).action c).override := by
  simp only [classAction, kind, if_neg (Nat.not_lt.mpr limit)]

theorem classAction_of_hold (h : s.record p = some w) (kind : ((s.bank k).action c).kind = .hold)
    (room : s.svl.hold.length < 4) :
    classAction s p k r c =
      ((s.setRecord p (some { w with state := .held })).setHold
        (s.svl.hold ++ [{ pocket := p, serial := r.serial, cls := c }])).raise .holdWaiting := by
  simp only [classAction, kind, if_pos room, holdPart]
  rw [modPart_of_some h]

theorem classAction_of_hold_full (kind : ((s.bank k).action c).kind = .hold) (full : 4 ≤ s.svl.hold.length) :
    classAction s p k r c = gradeInto s p ((s.bank k).action c).dest ((s.bank k).action c).override := by
  simp only [classAction, kind, if_neg (Nat.not_lt.mpr full)]

end

/-- Settles O33: each action in the state with the class counted and written, whose bank keeps its actions and lot. -/
theorem classActionsRun : Obligations.ClassActionsRun := by
  unfold Obligations.ClassActionsRun
  intro s p k r c d h a written s1 asBin
  have raised : raiseClass s p k r c d = classAction (s1.setRecord p (some written)) p k r c := raiseClass_of_some h k c d
  have action : ((s1.setRecord p (some written)).bank k).action c = a := by
    simp [s1, a, Bank.action]
  have limit : ((s1.setRecord p (some written)).bank k).lot.retestLimit = (s.bank k).lot.retestLimit := by
    simp [s1]
  have hold : (s1.setRecord p (some written)).svl.hold = s.svl.hold := by
    simp [s1]
  have record : (s1.setRecord p (some written)).record p = some written := State.record_setRecord_same s1 p _
  have graded : gradeInto (s1.setRecord p (some written)) p a.dest a.override = asBin := by
    have sameBin (x : SortBin) : s1.bin x = s.bin x := State.bin_modBank s k _ x
    rcases dest : a.dest with _ | x
    · simp only [asBin, dest, gradeInto_sweep_setRecord]
    · simp only [asBin, dest, gradeInto_bin_setRecord, sameBin]
  rw [raised]
  refine ⟨fun kind => ?takesBin, fun kind below => ?goesRound, fun kind spent => ?atLimit, fun kind room => ?held,
    fun kind full => ?noRoom⟩
  all_goals rw [← action] at kind
  case takesBin => rw [classAction_of_bin kind, action, graded]
  case goesRound =>
    rw [classAction_of_retest record kind (limit ▸ below), State.setRecord_setRecord]
  case atLimit => rw [classAction_of_retest_limit kind (limit ▸ spent), action, graded]
  case held =>
    rw [classAction_of_hold record kind (hold ▸ room), State.setRecord_setRecord, hold]
  case noRoom => rw [classAction_of_hold_full kind (hold ▸ full), action, graded]

/-! ## The reference path (R75, R76, R103) -/

theorem referenceSample_of_not_ok {r : Part} (notOk : ∀ m e t, r.measure ≠ some (.ok m e t)) (lot : Lot) :
    referenceSample lot r = none := by
  rcases measure : r.measure with _ | (⟨m, e, t⟩ | _ | _ | _ | _ | _ | _)
  case some.ok => exact absurd measure (notOk m e t)
  all_goals simp only [referenceSample, measure, resultClass]

section
variable {lot : Lot} {r : Part} {m : Nat} {e t : Int}

theorem referenceSample_of_ok (measure : r.measure = some (.ok m e t)) :
    referenceSample lot r = referenceOutcome lot ⟨m, e, t⟩ := by
  simp only [referenceSample, measure, resultClass]

theorem referenceOutcome_of_verdict (verdict : stage1 m e lot = .over ∨ stage1 m e lot = .under) :
    referenceOutcome lot ⟨m, e, t⟩ = none := by
  rcases verdict with v | v <;> simp only [referenceOutcome, v]

theorem referenceOutcome_of_value {raw : Int} (value : stage1 m e lot = .value raw) :
    referenceOutcome lot ⟨m, e, t⟩ =
      some (clampDev (stage2 raw t lot.tref lot.refTcr), stage2 raw t lot.tref lot.refTcr - lot.refCertified) := by
  simp only [referenceOutcome, value]

end

/-- The reference path grades the part, writes the reference deviation, and hands the sample or its lack to DRM (R103). -/
theorem gradeReference_of_no_sample {s : State} {k : BankId} {r : Part} (p : PocketNo)
    (sample : referenceSample (s.bank k).lot r = none) :
    gradeReference s p k r =
      badReference ((gradeInto s p (.bin (s.bank k).lot.refBin) true).modPart p fun r => { r with deviation := none }) := by
  simp only [gradeReference, sample, Option.map_none]

theorem gradeReference_of_sample {s : State} {k : BankId} {r : Part} {d : Deviation} {v : Int} (p : PocketNo)
    (sample : referenceSample (s.bank k).lot r = some (d, v)) :
    gradeReference s p k r =
      sampleArrival
        ((gradeInto s p (.bin (s.bank k).lot.refBin) true).modPart p fun r => { r with deviation := some d }) v := by
  simp only [gradeReference, sample, Option.map_some]

/-- Settles O34: no sample is formed of a result that is not OK or from a range verdict; else the raw value gives it. -/
theorem referencePathBinsThenReports : Obligations.ReferencePathBinsThenReports := by
  unfold Obligations.ReferencePathBinsThenReports
  intro s p k r h lot binned
  have unsampled (none_formed : referenceSample lot r = none) : gradeReference s p k r = badReference (binned none) := by
    rw [gradeReference_of_no_sample p none_formed, gradeInto_bin_deviation h]
  refine ⟨fun notOk => unsampled (referenceSample_of_not_ok notOk lot), fun m e t measure =>
    ⟨fun verdict => ?verdict, fun raw value => ?value⟩⟩
  all_goals have sample := referenceSample_of_ok (lot := lot) measure
  case verdict => exact unsampled (sample.trans (referenceOutcome_of_verdict verdict))
  case value =>
    have formed := sample.trans (referenceOutcome_of_value value)
    rw [gradeReference_of_sample p formed, gradeInto_bin_deviation h]
    rfl

end Sys2Proof.Machine
end

