-- ==== Sys2Proof/Proofs/BankWrites.lean ====
section
/-! PROOF. WRITE_LOT, WRITE_ENTRY, WRITE_CLASS and COPY_BANK (R85 to R89): the operands they read, the common checks, and what
each owner answers to a bank that may be written. -/

namespace Sys2Proof.Machine

/-! ## Codes and flags (Table 10.8) -/

@[simp] theorem bankOf_tagCode (k : BankId) : bankOf (tagCode (some k)) = some k := by
  cases k <;> rfl

theorem bankOf_eq_none {code : Byte} (notA : code ≠ 1) (notB : code ≠ 2) : bankOf code = none := by
  rw [bankOf, if_neg notA, if_neg notB]

theorem byte_toNat {n : Nat} (h : n < 256) : (byte n).toNat = n := by
  rw [byte, BitVec.toNat_ofNat, Nat.mod_eq_of_lt h]

@[simp] theorem flagOf_flagByte (b : Bool) : flagOf (flagByte b) = some b := by
  cases b <;> rfl

theorem flagOf_eq_none {b : Byte} (above : 1 < b.toNat) : flagOf b = none := by
  rw [flagOf, if_neg (by bv_omega), if_neg (by bv_omega)]

@[simp] theorem actionKindOf_code (k : ActionKind) : actionKindOf k.code = some k := by
  cases k <;> rfl

theorem actionKindOf_eq_none {b : Byte} (above : 2 < b.toNat) : actionKindOf b = none := by
  rw [actionKindOf, if_neg (by bv_omega), if_neg (by bv_omega), if_neg (by bv_omega)]

@[simp] theorem sortBinOf_number (b : SortBin) : sortBinOf (byte (b.val + 1)) = some b := by
  have number : (byte (b.val + 1)).toNat = b.val + 1 := byte_toNat (by omega)
  simp only [sortBinOf, number]
  exact dif_pos (by omega)

@[simp] theorem destOf_number (d : Dest) : destOf (byte d.number.val) = some d := by
  cases d with
  | sweep => rfl
  | bin b =>
    have number : (byte (b.val + 1)).toNat = b.val + 1 := byte_toNat (by omega)
    have nonzero : byte (b.val + 1) ≠ 0 := by bv_omega
    simp only [Dest.number, Fin.val_succ, destOf, if_neg nonzero, sortBinOf_number, Option.map_some]

theorem destOf_eq_none {b : Byte} (above : 15 < b.toNat) : destOf b = none := by
  have outside : ¬(1 ≤ b.toNat ∧ b.toNat ≤ 15) := by omega
  rw [destOf, if_neg (by bv_omega), sortBinOf, dif_neg outside, Option.map_none]

theorem classOf_of_toNat {b : Byte} {x : Fin 9} (h : b.toNat = x.val) : classOf b = some x := by
  simp only [classOf, h, x.isLt, dite_true]

theorem classOf_eq_none {b : Byte} (above : 8 < b.toNat) : classOf b = none := dif_neg (by omega)

theorem entryNoOf_of_toNat {b : Byte} {e : Fin 16} (h : b.toNat = e.val) : entryNoOf b = some e := by
  simp only [entryNoOf, h, e.isLt, dite_true]

theorem entryNoOf_eq_none {b : Byte} (above : 15 < b.toNat) : entryNoOf b = none := dif_neg (by omega)

/-! ## Class actions (R88) -/

theorem classActionOf_of_bytes {a : ClassAction} {kind bin ovr good : Byte}
    (bytes : actionBytes a = [kind, bin, ovr, good]) : classActionOf kind bin ovr good = some a := by
  simp only [actionBytes, List.cons.injEq, and_true] at bytes
  obtain ⟨rfl, rfl, rfl, rfl⟩ := bytes
  simp only [classActionOf, actionKindOf_code, destOf_number, flagOf_flagByte]

theorem classActionOf_eq_none {kind bin ovr good : Byte}
    (above : 2 < kind.toNat ∨ 15 < bin.toNat ∨ 1 < ovr.toNat ∨ 1 < good.toNat) :
    classActionOf kind bin ovr good = none := by
  unfold classActionOf
  split
  · next kindOf binOf ovrOf goodOf =>
    rcases above with above | above | above | above
    · simp [actionKindOf_eq_none above] at kindOf
    · simp [destOf_eq_none above] at binOf
    · simp [flagOf_eq_none above] at ovrOf
    · simp [flagOf_eq_none above] at goodOf
  · rfl

/-! ## Ranges (Table 5.3, R83, R87) -/

theorem Lot.inRange_iff_meets (l : Lot) : l.inRange = true ↔ l.meets := by
  simp only [Lot.inRange, Lot.meets, Bool.and_eq_true, decide_eq_true_eq, and_assoc]

/-- The outer bounds of a window with its bounds in order hold for both of them. -/
theorem WindowEntry.inRange_iff_meets (w : WindowEntry) : w.inRange = true ↔ w.meets := by
  simp only [WindowEntry.inRange, WindowEntry.meets, Bool.and_eq_true, decide_eq_true_eq, Bool.not_eq_true',
    List.contains_eq_mem, decide_eq_false_iff_not, and_assoc]
  constructor
  · rintro ⟨low, high, order, rest⟩
    exact ⟨low, by omega, by omega, high, order, rest⟩
  · rintro ⟨low, -, -, high, order, rest⟩
    exact ⟨low, high, order, rest⟩

/-- The lot parameters that a payload gives have passed the range test. -/
theorem meets_of_lotOf {p : List Byte} {l : Lot} (h : lotOf p = some l) : l.meets := by
  refine l.inRange_iff_meets.mp ?_
  unfold lotOf at h
  split at h
  · split at h
    · dsimp only at h
      split at h
      · next range => cases h; exact range
      · cases h
    · cases h
  · cases h

/-- The window entry that a payload gives has passed the range test. -/
theorem meets_of_entryOf {p : List Byte} {w : WindowEntry} (h : entryOf p = some w) : w.meets := by
  refine w.inRange_iff_meets.mp ?_
  unfold entryOf at h
  split at h
  · split at h
    · dsimp only at h
      split at h
      · next range => cases h; exact range.2
      · cases h
    · cases h
  · cases h

/-! ## The common checks (R85) -/

section
variable {s : State} {k : BankId}

theorem writableBank_of_no_bank {code : Byte} (s : State) (notA : code ≠ 1) (notB : code ≠ 2) :
    writableBank s code = .error .badValue := by
  simp only [writableBank, bankOf_eq_none notA notB]

theorem writableBank_of_barred (barred : s.ptk.opState = .tripped ∨ (s.bank k).state ≠ .standby) :
    writableBank s (tagCode (some k)) = .error .wrongState := by
  simp only [writableBank, bankOf_tagCode]
  split
  · rfl
  · next running => exact if_neg (barred.resolve_left running)

theorem writableBank_of_standby (running : s.ptk.opState ≠ .tripped) (standby : (s.bank k).state = .standby) :
    writableBank s (tagCode (some k)) = .ok k := by
  simp only [writableBank, bankOf_tagCode, if_neg running, if_pos standby]

end

/-! ## The four requests with bodies of their lengths (Table 10.9) -/

section
variable {s : State} {p : List Byte} (taken : takesRequest s = true)
include taken

theorem exec_writeLot_of_takes (length : p.length = 21) :
    exec (.writeLot (bodyOf p)) s = .next ((ownWriteLot p s).1.answer 0x30 (ownWriteLot p s).2) :=
  congrArg Host.Outcome.next (request_bodyOf taken (by rw [length]; rfl) (by omega))

theorem exec_writeEntry_of_takes (length : p.length = 14) :
    exec (.writeEntry (bodyOf p)) s = .next ((ownWriteEntry p s).1.answer 0x31 (ownWriteEntry p s).2) :=
  congrArg Host.Outcome.next (request_bodyOf taken (by rw [length]; rfl) (by omega))

theorem exec_writeClass_of_takes (length : p.length = 6) :
    exec (.writeClass (bodyOf p)) s = .next ((ownWriteClass p s).1.answer 0x32 (ownWriteClass p s).2) :=
  congrArg Host.Outcome.next (request_bodyOf taken (by rw [length]; rfl) (by omega))

theorem exec_copyBank_of_takes (length : p.length = 1) :
    exec (.copyBank (bodyOf p)) s = .next ((ownCopyBank p s).1.answer 0x33 (ownCopyBank p s).2) :=
  congrArg Host.Outcome.next (request_bodyOf taken (by rw [length]; rfl) (by omega))

/-- A failed common check is what each of the four requests answers, whatever else the payload holds. -/
theorem bank_writes_of_error {code : Byte} {st : Status} (failed : writableBank s code = .error st) (rest : List Byte) :
    (rest.length = 20 → exec (.writeLot (bodyOf (code :: rest))) s = .next (s.answer 0x30 ⟨st, []⟩)) ∧
      (rest.length = 13 → exec (.writeEntry (bodyOf (code :: rest))) s = .next (s.answer 0x31 ⟨st, []⟩)) ∧
      (rest.length = 5 → exec (.writeClass (bodyOf (code :: rest))) s = .next (s.answer 0x32 ⟨st, []⟩)) ∧
      exec (.copyBank (bodyOf [code])) s = .next (s.answer 0x33 ⟨st, []⟩) := by
  refine ⟨fun length => ?lot, fun length => ?entry, fun length => ?cls, ?copy⟩
  case lot =>
    rw [exec_writeLot_of_takes taken (by rw [List.length_cons, length])]
    simp only [ownWriteLot, failed]; rfl
  case entry =>
    rw [exec_writeEntry_of_takes taken (by rw [List.length_cons, length])]
    obtain ⟨n, fields, rfl⟩ := List.exists_cons_of_length_eq_add_one length
    simp only [ownWriteEntry, failed]; rfl
  case cls =>
    rw [exec_writeClass_of_takes taken (by rw [List.length_cons, length])]
    obtain ⟨c, fields, rfl⟩ := List.exists_cons_of_length_eq_add_one length
    obtain ⟨kind, bin, ovr, good, rfl⟩ := List.length_eq_four.mp (Nat.succ.inj length)
    simp only [ownWriteClass, failed]; rfl
  case copy =>
    rw [exec_copyBank_of_takes taken rfl]
    simp only [ownCopyBank, failed]; rfl

end

/-! ## The owners' answers for a bank that may be written (R86 to R89) -/

section
variable {s : State} {code : Byte} {k : BankId} (writable : writableBank s code = .ok k)
include writable

theorem ownWriteLot_of_refused {rest : List Byte} (noLot : lotOf rest = none) :
    ownWriteLot (code :: rest) s = (s, ⟨.badValue, []⟩) := by
  simp only [ownWriteLot, writable, noLot]; rfl

theorem ownWriteLot_of_lot {rest : List Byte} {l : Lot} (lot : lotOf rest = some l) :
    ownWriteLot (code :: rest) s = (s.modBank k fun b => { b with lot := l }, ⟨.ok, []⟩) := by
  simp only [ownWriteLot, writable, lot]; rfl

theorem ownWriteEntry_of_refused {n : Byte} {rest : List Byte} (refused : entryNoOf n = none ∨ entryOf rest = none) :
    ownWriteEntry (code :: n :: rest) s = (s, ⟨.badValue, []⟩) := by
  simp only [ownWriteEntry, writable]
  split
  · next number fields => exact absurd refused (by simp [number, fields])
  · rfl

theorem ownWriteEntry_of_entry {n : Byte} {rest : List Byte} {e : Fin 16} {w : WindowEntry} (number : entryNoOf n = some e)
    (entry : entryOf rest = some w) :
    ownWriteEntry (code :: n :: rest) s =
      (s.modBank k fun b => { b with entries := b.entries.set e w e.isLt }, ⟨.ok, []⟩) := by
  simp only [ownWriteEntry, writable, number, entry]; rfl

theorem ownWriteClass_of_refused {c kind bin ovr good : Byte}
    (refused : classOf c = none ∨ classActionOf kind bin ovr good = none) :
    ownWriteClass [code, c, kind, bin, ovr, good] s = (s, ⟨.badValue, []⟩) := by
  simp only [ownWriteClass, writable]
  split
  · next number fields => exact absurd refused (by simp [number, fields])
  · rfl

theorem ownWriteClass_of_action {c kind bin ovr good : Byte} {x : Fin 9} {a : ClassAction} (cls : classOf c = some x)
    (action : classActionOf kind bin ovr good = some a) :
    ownWriteClass [code, c, kind, bin, ovr, good] s =
      (s.modBank k fun b => { b with actions := b.actions.set x a x.isLt }, ⟨.ok, []⟩) := by
  simp only [ownWriteClass, writable, cls, action]; rfl

theorem ownCopyBank_of_standby_source (source : (s.bank (otherBank k)).state = .standby) :
    ownCopyBank [code] s = (s, ⟨.condition, []⟩) := by
  simp only [ownCopyBank, writable, if_pos source]; rfl

theorem ownCopyBank_of_source (source : (s.bank (otherBank k)).state ≠ .standby) :
    ownCopyBank [code] s =
      (s.modBank k fun b =>
        { b with
          lot := (s.bank (otherBank k)).lot, entries := (s.bank (otherBank k)).entries,
          actions := (s.bank (otherBank k)).actions }, ⟨.ok, []⟩) := by
  simp only [ownCopyBank, writable, if_neg source]; rfl

end

/-- Settles O29: a failed common check by `bank_writes_of_error`, and the owners' answers for a bank that may be written. -/
theorem bankWritesChecksAndEffects : Obligations.BankWritesChecksAndEffects := by
  unfold Obligations.BankWritesChecksAndEffects
  intro s taken
  refine ⟨fun code rest notA notB => bank_writes_of_error taken (writableBank_of_no_bank s notA notB) rest,
    fun k rest barred => bank_writes_of_error taken (writableBank_of_barred barred) rest, fun k running standby => ?_⟩
  have writable := writableBank_of_standby running standby
  refine ⟨fun rest length => ?lot, fun n rest length => ?entry, fun c kind bin ovr good => ?cls, ?copy⟩
  case lot =>
    rw [exec_writeLot_of_takes taken (by rw [List.length_cons, length])]
    refine ⟨fun noLot => ?_, fun l lot => ⟨meets_of_lotOf lot, ?_⟩⟩
    · rw [ownWriteLot_of_refused writable noLot]
    · rw [ownWriteLot_of_lot writable lot]
  case entry =>
    rw [exec_writeEntry_of_takes taken (by rw [List.length_cons, List.length_cons, length])]
    refine ⟨fun refused => ?_, fun e w number entry => ⟨meets_of_entryOf entry, ?_⟩⟩
    · rw [ownWriteEntry_of_refused writable (refused.imp_left entryNoOf_eq_none)]
    · rw [ownWriteEntry_of_entry writable (entryNoOf_of_toNat number) entry]
  case cls =>
    rw [exec_writeClass_of_takes taken rfl]
    refine ⟨fun refused => ?_, fun x a cls bytes => ?_⟩
    · rw [ownWriteClass_of_refused writable (refused.imp classOf_eq_none classActionOf_eq_none)]
    · rw [ownWriteClass_of_action writable (classOf_of_toNat cls) (classActionOf_of_bytes bytes)]
  case copy =>
    rw [exec_copyBank_of_takes taken rfl]
    refine ⟨fun source => ?_, fun source => ?_⟩
    · rw [ownCopyBank_of_standby_source writable source]
    · rw [ownCopyBank_of_source writable source]

end Sys2Proof.Machine
end

