-- ==== Sys2Proof/Proofs/BinResize.lean ====
section
/-! PROOF. SET_BIN (R122, R124, R125): the operands it reads, the owner's answers in the order of its checks, and the bin that
step 3 leaves, by Table 6.4. -/

namespace Sys2Proof.Machine

/-! ## The operands (Tables 10.8 and 10.10, R183) -/

theorem sortBinOf_eq_none {n : Byte} (outside : n = 0 ∨ 15 < n.toNat) : sortBinOf n = none :=
  dif_neg (by bv_omega)

theorem natOf_two_bytes {x : Nat} (h : x < 65536) : natOf [byte (x / 256), byte x] = x := by
  simp only [natOf, byte, List.foldl_cons, List.foldl_nil, BitVec.toNat_ofNat]
  omega

/-! ## The owner's answers, in the order of its checks (R122) -/

theorem exec_setBin_of_takes {s : State} (taken : takesRequest s = true) (n c1 c0 m cl : Byte) :
    exec (.setBin (bodyOf [n, c1, c0, m, cl])) s =
      .next ((ownSetBin [n, c1, c0, m, cl] s).1.answer 0x40 (ownSetBin [n, c1, c0, m, cl] s).2) :=
  congrArg Host.Outcome.next (request_bodyOf taken rfl (by decide : 5 < 256))

theorem ownSetBin_of_refused {n c1 c0 m cl : Byte}
    (refused : sortBinOf n = none ∨ natOf [c1, c0] = 0 ∨ flagOf cl = none) (s : State) :
    ownSetBin [n, c1, c0, m, cl] s = (s, ⟨.badValue, [0]⟩) := by
  simp only [ownSetBin]
  split
  · next number flag =>
    have zero : natOf [c1, c0] = 0 := by simpa [number, flag] using refused
    exact if_pos zero
  · rfl

/-- Operands that pass steps 1 and 2: step 3 decides the effect and the status, and the record goes with the answer. -/
theorem ownSetBin_of_operands {n c1 c0 m cl : Byte} {b : SortBin} {close : Bool} (number : sortBinOf n = some b)
    (nonzero : natOf [c1, c0] ≠ 0) (flag : flagOf cl = some close) (s : State) :
    ownSetBin [n, c1, c0, m, cl] s =
      let out := setBinChecked s b (natOf [c1, c0]) m.toNat close
      (out.1, ⟨out.2, binPayload out.1 b⟩) := by
  simp only [ownSetBin, number, flag, if_neg nonzero]

/-- A request whose operands lie within their ranges answers what step 3 leaves. -/
theorem exec_setBin_of_checked {s t : State} {b : SortBin} {capacity margin : Nat} {cl : Byte} {close : Bool} {st : Status}
    (taken : takesRequest s = true) (positive : 1 ≤ capacity) (capacityFits : capacity ≤ 65535) (marginFits : margin ≤ 255)
    (flag : flagOf cl = some close) (checked : setBinChecked s b capacity margin close = (t, st)) :
    exec (.setBin (bodyOf [byte (b.val + 1), byte (capacity / 256), byte capacity, byte margin, cl])) s =
      .next (t.answer 0x40 ⟨st, binPayload t b⟩) := by
  have value : natOf [byte (capacity / 256), byte capacity] = capacity := natOf_two_bytes (by omega)
  have nonzero : natOf [byte (capacity / 256), byte capacity] ≠ 0 := by omega
  rw [exec_setBin_of_takes taken, ownSetBin_of_operands (sortBinOf_number b) nonzero flag, value,
    byte_toNat (by omega), checked]

/-! ## Step 3: closing and the room law (R124, R125) -/

section
variable {s : State} {b : SortBin}

theorem closable_iff : closable s b = true ↔ (s.bin b).reserved = 0 ∧ pulseRunning s b = false := by
  simp only [closable, Bool.and_eq_true, beq_iff_eq, Bool.not_eq_true']

theorem setBinChecked_of_idle (unreserved : (s.bin b).reserved = 0) (idle : pulseRunning s b = false)
    (capacity margin : Nat) :
    setBinChecked s b capacity margin true = (s.setBin b { s.bin b with state := .closed }, .ok) := by
  simp only [setBinChecked, if_pos (closable_iff.mpr ⟨unreserved, idle⟩), if_true]

theorem setBinChecked_of_busy (busy : (s.bin b).reserved ≠ 0 ∨ pulseRunning s b = true) (capacity margin : Nat) :
    setBinChecked s b capacity margin true = (s, .condition) := by
  have barred : ¬closable s b = true := by rwa [closable_iff, not_and_or, Bool.not_eq_false]
  simp only [setBinChecked, if_neg barred, if_true]

variable {capacity margin : Nat}

theorem setBinChecked_of_no_room (noRoom : capacity + margin < (s.bin b).filled + (s.bin b).reserved) :
    setBinChecked s b capacity margin false = (s, .badValue) := by
  simp only [setBinChecked, if_pos noRoom, Bool.false_eq_true, if_false]

theorem setBinChecked_of_room (room : (s.bin b).filled + (s.bin b).reserved ≤ capacity + margin) :
    setBinChecked s b capacity margin false = (resizeBin s b capacity margin, .ok) := by
  simp only [setBinChecked, if_neg (Nat.not_lt.mpr room), Bool.false_eq_true, if_false]

/-! ## The derived state (Table 6.4) -/

/-- A bin in a box exchange keeps its state. -/
theorem resizeBin_of_exchanging (exchanging : (s.bin b).state = .draining ∨ (s.bin b).state = .exchange)
    (capacity margin : Nat) :
    resizeBin s b capacity margin = s.setBin b { s.bin b with capacity := capacity, margin := margin } := by
  have kept : ∀ below, derivedState (s.bin b).state below = (s.bin b).state := by
    rcases exchanging with h | h <;> simp only [h, derivedState, implies_true]
  simp only [resizeBin, kept, and_not_self, if_false]

/-- Any other bin is OPEN or FULL by its new capacity. -/
theorem derivedState_of_in_use {st : BinState} (inUse : st = .closed ∨ st = .opened ∨ st = .full) (below : Bool) :
    derivedState st below = if below then .opened else .full := by
  rcases inUse with rfl | rfl | rfl <;> rfl

variable (inUse : (s.bin b).state = .closed ∨ (s.bin b).state = .opened ∨ (s.bin b).state = .full)
include inUse

theorem resizeBin_of_below (below : (s.bin b).filled + (s.bin b).reserved < capacity) (margin : Nat) :
    resizeBin s b capacity margin =
      s.setBin b { s.bin b with capacity := capacity, margin := margin, state := .opened } := by
  simp [resizeBin, derivedState_of_in_use inUse, below]

theorem resizeBin_of_filled (filled : capacity ≤ (s.bin b).filled + (s.bin b).reserved) (margin : Nat) :
    resizeBin s b capacity margin =
      let u := s.setBin b { s.bin b with capacity := capacity, margin := margin, state := .full }
      if (s.bin b).state = .full then u else u.raise .binFull := by
  simp [resizeBin, derivedState_of_in_use inUse, Nat.not_lt.mpr filled, ite_not]

end

/-- Settles O36: operands refused at steps 1 and 2; then closing, the room law and the derived state, each an
outcome of `setBinChecked`. -/
theorem setBinChecksAndDerives : Obligations.SetBinChecksAndDerives := by
  unfold Obligations.SetBinChecksAndDerives
  intro s taken
  refine ⟨fun n c1 c0 m cl bad => ?refused, fun b capacity margin positive capacityFits marginFits => ?accepted⟩
  case refused =>
    have refused : sortBinOf n = none ∨ natOf [c1, c0] = 0 ∨ flagOf cl = none := by
      rcases bad with zero | above | ⟨rfl, rfl⟩ | above
      · exact .inl (sortBinOf_eq_none (.inl zero))
      · exact .inl (sortBinOf_eq_none (.inr above))
      · exact .inr (.inl rfl)
      · exact .inr (.inr (flagOf_eq_none above))
    rw [exec_setBin_of_takes taken, ownSetBin_of_refused refused]
  case accepted =>
    refine ⟨fun unreserved idle => ?closed, fun busy => ?busy, fun noRoom => ?noRoom,
      fun room => ⟨fun exchanging => ?exchanging, fun inUse => ⟨fun below => ?below, fun filled => ?filled⟩⟩⟩
    case closed =>
      exact exec_setBin_of_checked taken positive capacityFits marginFits rfl (setBinChecked_of_idle unreserved idle _ _)
    case busy =>
      exact exec_setBin_of_checked taken positive capacityFits marginFits rfl (setBinChecked_of_busy busy _ _)
    case noRoom =>
      exact exec_setBin_of_checked taken positive capacityFits marginFits rfl (setBinChecked_of_no_room noRoom)
    case exchanging =>
      refine exec_setBin_of_checked taken positive capacityFits marginFits rfl ?_
      rw [setBinChecked_of_room room, resizeBin_of_exchanging exchanging]
    case below =>
      refine exec_setBin_of_checked taken positive capacityFits marginFits rfl ?_
      rw [setBinChecked_of_room room, resizeBin_of_below inUse below]
    case filled =>
      refine exec_setBin_of_checked taken positive capacityFits marginFits rfl ?_
      rw [setBinChecked_of_room room, resizeBin_of_filled inUse filled]

end Sys2Proof.Machine
end


section
/-! PROOF. A sample arrival at the drift monitor (R139 to R142): the bounded target, the monitor after a sample, and the two
outcomes of the alarm test. -/

namespace Sys2Proof.Machine

/-! ## The monitor after a sample (R139, R140) -/

theorem boundOffset_eq_max_min (v : Int) : boundOffset v = max (-10000) (min 10000 v) := by
  unfold boundOffset
  split
  case isTrue below => omega
  case isFalse notBelow =>
    split
    case isTrue above => omega
    case isFalse notAbove => omega

theorem Drm.sampled_eq (d : Drm) (v : Int) :
    d.sampled v =
      { d with
        lastSample := some v, samples := satAdd d.samples 1,
        target := if d.config.hysteresis < (v - d.target).natAbs then max (-10000) (min 10000 v) else d.target,
        overdueCount := 0, overdueFlag := false } := by
  rw [Drm.sampled, boundOffset_eq_max_min]

/-! ## The alarm test (R141) -/

section
variable {s : State} {v : Int}

theorem sampleArrival_of_within (within : v.natAbs ≤ s.drm.config.alarmLimit) :
    sampleArrival s v = { s with drm := s.drm.sampled v } :=
  if_neg (Nat.not_lt.mpr within)

theorem sampleArrival_of_beyond (beyond : s.drm.config.alarmLimit < v.natAbs) :
    sampleArrival s v =
      tripTrigger ({ s with drm := { s.drm.sampled v with latch := true } }.raise .driftAlarm) .drift :=
  if_pos beyond

end

/-- Settles O40: the alarm test decides between the sampled monitor alone and the latch, flag and trip after it. -/
theorem samplesMoveTheTarget : Obligations.SamplesMoveTheTarget := by
  unfold Obligations.SamplesMoveTheTarget
  intro s v
  refine ⟨fun within => ?within, fun beyond => ?beyond, ?badReference⟩
  case within => rw [sampleArrival_of_within within, Drm.sampled_eq]
  case beyond => rw [sampleArrival_of_beyond beyond, Drm.sampled_eq]
  case badReference => rfl

end Sys2Proof.Machine
end


section
/-! PROOF. Trips (R156 to R162): what a pocket hands off under each action, entries lost and reservations released pocket by
pocket taken together, the trip action over the ring's pockets, and the trigger around it. -/

namespace Sys2Proof.Machine

/-! ## Entries lost for several pockets (R47, R56, R57) -/

theorem satAdd_satAdd (c : Count16) (m n : Nat) : satAdd (satAdd c m) n = satAdd c (m + n) := by
  apply BitVec.eq_of_toNat_eq
  simp only [satAdd, BitVec.toNat_ofNat]
  omega

/-- Cutting a list down twice is cutting it down once, where an oldest entry that stays to the end stayed at the first cut. -/
theorem MeterPort.setEntries_setEntries (m : MeterPort) {es fs : List Outstanding} (sub : fs ⊆ es)
    (oldest : fs ≠ [] → fs.head? = m.entries.head? → es.head? = m.entries.head?) :
    (m.setEntries es).setEntries fs = m.setEntries fs := by
  have timer : ((m.setEntries es).setEntries fs).timer = (m.setEntries fs).timer := by
    simp only [setEntries_timer, setEntries_entries, setEntries_timeoutMs]
    by_cases empty : fs = []
    · simp only [if_pos empty]
    · have es_ne : es ≠ [] := fun e => empty (List.subset_nil.mp (e ▸ sub))
      by_cases same : fs.head? = m.entries.head?
      · simp only [if_neg empty, if_neg es_ne, same, oldest empty same, if_true]
      · by_cases moved : es.head? = m.entries.head?
        · simp only [if_neg empty, moved, if_neg same]
        · simp only [if_neg empty, if_neg es_ne, if_neg same, if_neg moved, ite_self]
  have queue : ((m.setEntries es).setEntries fs).txQueue = (m.setEntries fs).txQueue := by
    simp only [setEntries_txQueue, List.filter_filter]
    refine List.filter_congr fun f _ => Bool.and_eq_left_iff_imp.mpr fun waits => ?_
    obtain ⟨e, mem, names⟩ := List.any_eq_true.mp waits
    exact List.any_eq_true.mpr ⟨e, sub mem, names⟩
  rw [MeterPort.setEntries, MeterPort.setEntries, MeterPort.mk.injEq]
  exact ⟨rfl, rfl, rfl, rfl, rfl, timer, rfl, queue, rfl, rfl⟩

/-- A port after the entries of the pockets that `gone` names are lost (R56, R57). -/
def MeterPort.loseAll (m : MeterPort) (gone : PocketNo → Bool) : MeterPort :=
  if (m.entries.filter fun e => gone e.pocket) = [] then m
  else
    { m.setEntries (m.entries.filter fun e => !gone e.pocket) with
      counts := { m.counts with lost := satAdd m.counts.lost (m.entries.filter fun e => gone e.pocket).length } }

theorem MeterPort.lose_eq_loseAll (m : MeterPort) (p : PocketNo) : m.lose p = m.loseAll (· == p) := rfl

theorem MeterPort.loseAll_of_none {m : MeterPort} {gone : PocketNo → Bool} (h : ∀ e ∈ m.entries, gone e.pocket = false) :
    m.loseAll gone = m :=
  if_pos (List.filter_eq_nil_iff.mpr fun e mem => Bool.eq_false_iff.mp (h e mem))

theorem MeterPort.loseAll_congr {m : MeterPort} {f g : PocketNo → Bool} (h : ∀ e ∈ m.entries, f e.pocket = g e.pocket) :
    m.loseAll f = m.loseAll g := by
  have lost : (m.entries.filter fun e => f e.pocket) = m.entries.filter fun e => g e.pocket := List.filter_congr h
  have left : (m.entries.filter fun e => !f e.pocket) = m.entries.filter fun e => !g e.pocket :=
    List.filter_congr fun e mem => congrArg not (h e mem)
  simp only [MeterPort.loseAll, lost, left]

theorem MeterPort.loseAll_entries (m : MeterPort) (gone : PocketNo → Bool) :
    (m.loseAll gone).entries = m.entries.filter fun e => !gone e.pocket := by
  unfold MeterPort.loseAll
  split
  · next none_lost => exact (List.filter_eq_self.mpr (by simpa using none_lost)).symm
  · rfl

theorem MeterPort.names_loseAll (m : MeterPort) {gone : PocketNo → Bool} {q : PocketNo} (h : gone q = false) :
    (m.loseAll gone).names q = m.names q := by
  rw [Bool.eq_iff_iff]
  simp only [MeterPort.names, loseAll_entries, List.any_filter, List.any_eq_true, Bool.and_eq_true, beq_iff_eq]
  refine exists_congr fun e => and_congr_right fun _ => and_iff_right_of_imp ?_
  rintro rfl
  rw [h]; rfl

/-- An oldest entry that two cuts leave is left by the first. -/
theorem head?_filter_of_filter_filter {α : Type} {f g : α → Bool} {l : List α}
    (ne : (l.filter f).filter g ≠ []) (h : ((l.filter f).filter g).head? = l.head?) : (l.filter f).head? = l.head? := by
  rcases l with _ | ⟨x, xs⟩
  · rfl
  · have stays : x ∈ ((x :: xs).filter f).filter g := List.mem_of_head? h
    have kept : f x = true := (List.mem_filter.mp (List.mem_filter.mp stays).1).2
    rw [List.filter_cons_of_pos kept, List.head?_cons, List.head?_cons]

theorem length_filter_or {α : Type} (f g : α → Bool) (l : List α) :
    (l.filter fun x => f x || g x).length = (l.filter f).length + ((l.filter fun x => !f x).filter g).length := by
  induction l with
  | nil => rfl
  | cons x xs ih =>
    cases first : f x with
    | true => simp [first, ih]; omega
    | false =>
      cases second : g x with
      | true => simp [first, second, ih]; omega
      | false => simp [first, second, ih]

/-- Losing the entries of some pockets and then of others is losing them together. -/
theorem MeterPort.loseAll_loseAll (m : MeterPort) (f g : PocketNo → Bool) :
    (m.loseAll f).loseAll g = m.loseAll fun p => f p || g p := by
  by_cases first : (m.entries.filter fun e => f e.pocket) = []
  · have kept : ∀ e ∈ m.entries, f e.pocket = false := by simpa using first
    rw [loseAll_of_none kept]
    exact loseAll_congr fun e mem => by rw [kept e mem, Bool.false_or]
  by_cases second : ((m.entries.filter fun e => !f e.pocket).filter fun e => g e.pocket) = []
  · have kept : ∀ e ∈ (m.loseAll f).entries, g e.pocket = false := by
      intro e mem
      rw [loseAll_entries] at mem
      exact Bool.eq_false_iff.mpr (List.filter_eq_nil_iff.mp second e mem)
    rw [loseAll_of_none kept]
    refine loseAll_congr fun e mem => ?_
    rcases lost : f e.pocket with _ | _
    · rw [kept e (by simp [loseAll_entries, mem, lost]), Bool.false_or]
    · rfl
  have both : (m.entries.filter fun e => f e.pocket || g e.pocket) ≠ [] := fun none_lost =>
    first (List.filter_eq_nil_iff.mpr fun e mem lost =>
      List.filter_eq_nil_iff.mp none_lost e mem (Bool.or_eq_true_iff.mpr (.inl lost)))
  have left : (m.entries.filter fun e => !(f e.pocket || g e.pocket)) =
      (m.entries.filter fun e => !f e.pocket).filter fun e => !g e.pocket := by
    simp only [List.filter_filter, Bool.not_or, Bool.and_comm]
  have cut : m.loseAll f =
      { m.setEntries (m.entries.filter fun e => !f e.pocket) with
        counts := { m.counts with lost := satAdd m.counts.lost (m.entries.filter fun e => f e.pocket).length } } :=
    if_neg first
  calc (m.loseAll f).loseAll g
    _ = { (m.setEntries (m.entries.filter fun e => !f e.pocket)).setEntries
            ((m.entries.filter fun e => !f e.pocket).filter fun e => !g e.pocket) with
          counts :=
            { m.counts with
              lost :=
                satAdd (satAdd m.counts.lost (m.entries.filter fun e => f e.pocket).length)
                  ((m.entries.filter fun e => !f e.pocket).filter fun e => g e.pocket).length } } := by
      rw [cut]; exact if_neg second
    _ = m.loseAll fun p => f p || g p := by
      rw [m.setEntries_setEntries (List.filter_subset_self _) head?_filter_of_filter_filter, satAdd_satAdd,
        ← length_filter_or, ← left]
      exact (if_neg both).symm

/-! ## Reservations released together (R115, R119) -/

/-- A bin after `n` releases, where `busy` says whether a pulse runs on its gate line. -/
def BinRec.released (r : BinRec) (busy : Bool) (n : Nat) : BinRec :=
  { r with
    reserved := r.reserved - n
    state := if r.state = .draining ∧ 0 < n ∧ r.reserved ≤ n ∧ busy = false then .exchange else r.state }

@[simp] theorem BinRec.released_zero (r : BinRec) (busy : Bool) : r.released busy 0 = r := by
  simp [BinRec.released]

theorem BinRec.released_released (r : BinRec) (busy : Bool) (m n : Nat) :
    (r.released busy m).released busy n = r.released busy (m + n) := by
  have state : ((r.released busy m).released busy n).state = (r.released busy (m + n)).state := by
    by_cases drains : r.state = .draining ∧ 0 < m ∧ r.reserved ≤ m ∧ busy = false
    · have total : r.state = .draining ∧ 0 < m + n ∧ r.reserved ≤ m + n ∧ busy = false := by
        obtain ⟨draining, pos, room, idle⟩ := drains
        exact ⟨draining, by omega, by omega, idle⟩
      simp only [BinRec.released, if_pos drains, if_pos total, ite_self]
    · have same : (r.state = .draining ∧ 0 < n ∧ r.reserved - m ≤ n ∧ busy = false) ↔
          (r.state = .draining ∧ 0 < m + n ∧ r.reserved ≤ m + n ∧ busy = false) := by
        constructor
        · rintro ⟨draining, pos, room, idle⟩
          exact ⟨draining, by omega, by omega, idle⟩
        · rintro ⟨draining, pos, room, idle⟩
          have late : ¬(0 < m ∧ r.reserved ≤ m) := fun e => drains ⟨draining, e.1, e.2, idle⟩
          exact ⟨draining, by omega, by omega, idle⟩
      simp only [BinRec.released, if_neg drains, same]
  have reserved : r.reserved - m - n = r.reserved - (m + n) := Nat.sub_sub ..
  rw [BinRec.mk.injEq]
  exact ⟨state, rfl, rfl, rfl, reserved, rfl⟩

theorem drainTest_bin_self (s : State) (b : SortBin) :
    (drainTest s b).bin b =
      { s.bin b with
        state :=
          if (s.bin b).state = .draining ∧ (s.bin b).reserved = 0 ∧ pulseRunning s b = false then .exchange
          else (s.bin b).state } := by
  unfold drainTest
  split
  · exact State.bin_setBin_same s b _
  · rfl

theorem drainTest_bin_ne (s : State) {b c : SortBin} (ne : c ≠ b) : (drainTest s b).bin c = s.bin c := by
  unfold drainTest
  split
  · exact State.bin_setBin_ne s ne.symm _
  · rfl

theorem release_bin (s : State) (b c : SortBin) :
    (release s b).bin c = (s.bin c).released (pulseRunning s c) (if c = b then 1 else 0) := by
  by_cases same : c = b
  · subst same
    have empties : (s.bin c).reserved ≤ 1 ↔ (s.bin c).reserved - 1 = 0 := by omega
    rw [release, drainTest_bin_self, State.bin_setBin_same, if_pos rfl]
    simp only [BinRec.released, empties, Nat.one_pos, true_and]
    rfl
  · rw [release, drainTest_bin_ne _ same, State.bin_setBin_ne _ (Ne.symm same), if_neg same, BinRec.released_zero]

/-- How one step of the trip action may change the bins and the attention flags: no bin leaves EXCHANGE, and of the flags
only SWAP_READY is raised, exactly where a bin has entered EXCHANGE (R119). -/
structure Drains (s t : State) : Prop where
  exchange_stays : ∀ b, (s.bin b).state = .exchange → (t.bin b).state = .exchange
  attention : t.svl.attention = { s.svl.attention with swapReady := t.svl.attention.swapReady }
  swapReady_iff : t.svl.attention.swapReady = true ↔
    s.svl.attention.swapReady = true ∨ ∃ b, (s.bin b).state ≠ .exchange ∧ (t.bin b).state = .exchange

theorem Drains.of_states_kept {s t : State} (states : ∀ b, (t.bin b).state = (s.bin b).state)
    (attention : t.svl.attention = s.svl.attention) : Drains s t where
  exchange_stays b h := (states b).trans h
  attention := by rw [attention]
  swapReady_iff := by simp [attention, states]

theorem Drains.refl (s : State) : Drains s s := .of_states_kept (fun _ => rfl) rfl

theorem Drains.trans {s t u : State} (st : Drains s t) (tu : Drains t u) : Drains s u where
  exchange_stays b h := tu.exchange_stays b (st.exchange_stays b h)
  attention := by rw [tu.attention, st.attention]
  swapReady_iff := by
    rw [tu.swapReady_iff, st.swapReady_iff]
    constructor
    · rintro ((set | ⟨b, before, entered⟩) | ⟨b, before, entered⟩)
      · exact .inl set
      · exact .inr ⟨b, before, tu.exchange_stays b entered⟩
      · exact .inr ⟨b, fun e => before (st.exchange_stays b e), entered⟩
    · rintro (set | ⟨b, before, entered⟩)
      · exact .inl (.inl set)
      · by_cases e : (t.bin b).state = .exchange
        · exact .inl (.inr ⟨b, before, e⟩)
        · exact .inr ⟨b, e, entered⟩

theorem drainTest_drains (s : State) (b : SortBin) : Drains s (drainTest s b) := by
  rcases drainTest_cases s b with kept | ⟨draining, -, -, drained⟩
  · rw [kept]; exact .refl s
  have entered : ((drainTest s b).bin b).state = .exchange := by
    rw [drained]; exact congrArg BinRec.state (State.bin_setBin_same s b _)
  have before : (s.bin b).state ≠ .exchange := by rw [draining]; decide
  have raised : (drainTest s b).svl.attention = { s.svl.attention with swapReady := true } := by rw [drained]; rfl
  exact
    { exchange_stays := fun c h => by
        rwa [drainTest_bin_ne s (show c ≠ b from fun e => before (by rwa [← e]))]
      attention := by rw [raised]
      swapReady_iff := ⟨fun _ => .inr ⟨b, before, entered⟩, fun _ => by rw [raised]⟩ }

theorem release_drains (s : State) (b : SortBin) : Drains s (release s b) := by
  refine Drains.trans (t := s.setBin b { s.bin b with reserved := (s.bin b).reserved - 1 })
    (.of_states_kept (fun c => ?_) rfl) (drainTest_drains _ b)
  by_cases same : b = c
  · subst same; rw [State.bin_setBin_same]
  · rw [State.bin_setBin_ne s same]

/-! ## One pocket under the trip action (R159 to R161) -/

/-- The record that a trip action leaves of a record whose entries, if it is MEASURING, are lost where the flags say. -/
def Part.tripped (a : TripAction) (lostA lostB : Bool) (r : Part) : Part :=
  match a, r.state with
  | .rejectAll, .graded (.bin _) => r.voided
  | .rejectAll, .measuring => r.voided
  | .rejectAll, .held => r.voided
  | .keepGraded, .measuring => r.voided
  | .keepGraded, .held => r.voided
  | .recirculate, .graded _ => r.recirculated
  | .recirculate, .measuring => (r.withLost lostA lostB).recirculated
  | .recirculate, .held => r.recirculated
  | _, _ => r

/-- The other blocks after the trip action's hand-off of a record in the given state; the track is as it was. -/
def tripHandOff (a : TripAction) (s : State) (p : PocketNo) : PartState → State
  | .graded (.bin b) => if a = .keepGraded then s else release s b
  | .held => dropHold s p
  | .measuring => { s with portA := s.portA.lose p, portB := s.portB.lose p }
  | _ => s

theorem tripPocket_of_none {a : TripAction} {s : State} {p : PocketNo} (h : s.record p = none) : tripPocket a s p = s := by
  simp only [tripPocket, h]

/-- An occupied pocket hands off by its state and keeps the record that the action prescribes. -/
theorem tripPocket_of_some (a : TripAction) {s : State} {p : PocketNo} {r : Part} (h : s.record p = some r) :
    tripPocket a s p =
      (tripHandOff a s p r.state).setRecord p (some (r.tripped a (s.portA.names p) (s.portB.names p))) := by
  have kept : s = s.setRecord p (some r) := (State.setRecord_of_record h).symm
  rcases state : r.state with _ | (_ | b) | _ | _ | _ | _
  case measuring =>
    have out := (congrArg (handOff s p) state).trans (loseEntries_of_some h)
    have voided := voidPocket_of_handOff h (by simp [state]) out
    have marked := recircPocket_of_handOff h out
    rw [Part.voided_withLost] at voided
    cases a <;> simp only [tripPocket, h, state, Part.tripped, tripHandOff, voided, marked]
  case graded.bin =>
    obtain ⟨voided, marked⟩ := void_and_recirc_of_track_kept h (by simp [state]) (by rw [state]; rfl) (release_ptk s b)
    cases a <;>
      simp only [tripPocket, h, state, Part.tripped, tripHandOff, voided, marked, reduceCtorEq, if_false, if_true]
    exact kept
  case held =>
    obtain ⟨voided, marked⟩ := void_and_recirc_of_track_kept h (u := dropHold s p) (by simp [state]) (by rw [state]; rfl) rfl
    cases a <;> simp only [tripPocket, h, state, Part.tripped, tripHandOff, voided, marked]
  case graded.sweep =>
    obtain ⟨-, marked⟩ := void_and_recirc_of_track_kept h (u := s) (by simp [state]) (by rw [state]; rfl) rfl
    cases a <;> simp only [tripPocket, h, state, Part.tripped, tripHandOff, marked] <;> exact kept
  all_goals
    cases a <;> simp only [tripPocket, h, state, Part.tripped, tripHandOff] <;> exact kept

theorem tripPocket_record_self (a : TripAction) (s : State) (p : PocketNo) :
    (tripPocket a s p).record p = (s.record p).map (Part.tripped a (s.portA.names p) (s.portB.names p)) := by
  rcases h : s.record p with _ | r
  · rw [tripPocket_of_none h, h]; rfl
  · rw [tripPocket_of_some a h, State.record_setRecord_same]; rfl

theorem tripHandOff_graded (a : TripAction) (s : State) (p : PocketNo) (b : SortBin) :
    tripHandOff a s p (.graded (.bin b)) = if a = .keepGraded then s else release s b := rfl

/-- What a reservation's release may write, where the action makes one. -/
theorem tripHandOff_graded_frame (a : TripAction) (s : State) (p : PocketNo) (b : SortBin) :
    tripHandOff a s p (.graded (.bin b)) =
      { s with
        bins := (tripHandOff a s p (.graded (.bin b))).bins
        svl := { s.svl with attention := (tripHandOff a s p (.graded (.bin b))).svl.attention } } := by
  rw [tripHandOff_graded]
  split
  · rfl
  · exact release_frame s b

@[simp] theorem tripHandOff_ptk (a : TripAction) (s : State) (p : PocketNo) (st : PartState) :
    (tripHandOff a s p st).ptk = s.ptk := by
  rcases st with _ | (_ | b) | _ | _ | _ | _
  case graded.bin => rw [tripHandOff_graded_frame]
  all_goals rfl

theorem tripPocket_record_ne (a : TripAction) (s : State) {p q : PocketNo} (ne : q ≠ p) :
    (tripPocket a s p).record q = s.record q := by
  rcases h : s.record p with _ | r
  · rw [tripPocket_of_none h]
  · rw [tripPocket_of_some a h, State.record_setRecord_ne _ ne.symm, State.record, tripHandOff_ptk, State.record]

theorem isHeld_of_some {s : State} {p : PocketNo} {r : Part} (h : s.record p = some r) :
    isHeld s p = decide (r.state = .held) := by
  rw [isHeld, h]; rfl

theorem isMeasuring_of_some {s : State} {p : PocketNo} {r : Part} (h : s.record p = some r) :
    isMeasuring s p = decide (r.state = .measuring) := by
  rw [isMeasuring, h]; rfl

/-- Whether a pocket is GRADED with a sort bin. -/
def isGradedFor (s : State) (b : SortBin) (p : PocketNo) : Bool :=
  (s.record p).any fun r => r.state == .graded (.bin b)

theorem isGradedFor_of_some {s : State} {p : PocketNo} {r : Part} (h : s.record p = some r) (b : SortBin) :
    isGradedFor s b p = decide (r.state = .graded (.bin b)) := by
  rw [isGradedFor, h]; rfl

theorem tripPocket_hold (a : TripAction) (s : State) (p : PocketNo) :
    (tripPocket a s p).svl.hold = s.svl.hold.filter fun e => !(e.pocket == p && isHeld s p) := by
  rcases h : s.record p with _ | r
  · simp [tripPocket_of_none h, isHeld, h]
  · rw [tripPocket_of_some a h, State.setRecord_svl, isHeld_of_some h]
    rcases r.state with _ | (_ | b) | _ | _ | _ | _
    case graded.bin => rw [tripHandOff_graded_frame]; simp
    all_goals simp [tripHandOff, dropHold, bne]

theorem tripPocket_port (a : TripAction) (s : State) (p : PocketNo) (id : PortId) :
    (tripPocket a s p).port id = (s.port id).loseAll fun q => q == p && isMeasuring s p := by
  have unmoved (h : isMeasuring s p = false) : (s.port id).loseAll (fun q => q == p && isMeasuring s p) = s.port id :=
    MeterPort.loseAll_of_none fun e _ => by rw [h, Bool.and_false]
  rcases h : s.record p with _ | r
  · rw [unmoved (by simp [isMeasuring, h]), tripPocket_of_none h]
  · rw [tripPocket_of_some a h]
    have measuring := isMeasuring_of_some h
    rcases state : r.state with _ | (_ | b) | _ | _ | _ | _ <;> rw [state] at measuring
    case measuring =>
      simp only [measuring, decide_true, Bool.and_true]
      cases id <;> rfl
    case graded.bin => rw [unmoved measuring, tripHandOff_graded_frame]; cases id <;> rfl
    all_goals rw [unmoved measuring]; cases id <;> rfl

theorem tripPocket_bin (a : TripAction) (s : State) (p : PocketNo) (b : SortBin) :
    (tripPocket a s p).bin b =
      (s.bin b).released (pulseRunning s b) (if a ≠ .keepGraded ∧ isGradedFor s b p = true then 1 else 0) := by
  rcases h : s.record p with _ | r
  · simp [tripPocket_of_none h, isGradedFor, h]
  · rw [tripPocket_of_some a h, isGradedFor_of_some h]
    change (tripHandOff a s p r.state).bin b = _
    rcases r.state with _ | (_ | c) | _ | _ | _ | _
    case graded.bin =>
      rw [tripHandOff_graded]
      split
      · next keep => simp [keep]
      · next discard => simp [release_bin, discard, eq_comm]
    all_goals
      simp only [reduceCtorEq, decide_false, Bool.false_eq_true, PartState.graded.injEq, and_false, if_false,
        BinRec.released_zero]
      rfl

@[simp] theorem tripPocket_gates (a : TripAction) (s : State) (p : PocketNo) : (tripPocket a s p).gates = s.gates := by
  rw [tripPocket_frame]

theorem tripPocket_drains (a : TripAction) (s : State) (p : PocketNo) : Drains s (tripPocket a s p) := by
  rcases h : s.record p with _ | r
  · rw [tripPocket_of_none h]; exact .refl s
  · rw [tripPocket_of_some a h]
    refine Drains.trans (t := tripHandOff a s p r.state) ?_ (.of_states_kept (fun _ => rfl) rfl)
    rcases r.state with _ | (_ | b) | _ | _ | _ | _
    case graded.bin =>
      rw [tripHandOff_graded]
      split
      · exact .refl s
      · exact release_drains s b
    all_goals exact .of_states_kept (fun _ => rfl) rfl

/-! ## Several pockets, each once (R158) -/

section
variable (a : TripAction) {ps : List PocketNo}

theorem foldl_tripPocket_record_of_not_mem {q : PocketNo} (s : State) (out : q ∉ ps) :
    (ps.foldl (tripPocket a) s).record q = s.record q := by
  induction ps generalizing s with
  | nil => rfl
  | cons p ps ih =>
    obtain ⟨ne, out⟩ := not_or.mp (mt List.mem_cons.mpr out)
    rw [List.foldl_cons, ih _ out, tripPocket_record_ne a s ne]

theorem tripPocket_names (s : State) {p q : PocketNo} (ne : q ≠ p) (id : PortId) :
    ((tripPocket a s p).port id).names q = (s.port id).names q := by
  rw [tripPocket_port, MeterPort.names_loseAll]
  simp [ne]

theorem foldl_tripPocket_record_of_mem {q : PocketNo} (once : ps.Nodup) (s : State) (mem : q ∈ ps) :
    (ps.foldl (tripPocket a) s).record q =
      (s.record q).map (Part.tripped a ((s.port .a).names q) ((s.port .b).names q)) := by
  induction ps generalizing s with
  | nil => cases mem
  | cons p ps ih =>
    obtain ⟨fresh, once⟩ := List.nodup_cons.mp once
    rw [List.foldl_cons]
    by_cases same : q = p
    · subst same
      rw [foldl_tripPocket_record_of_not_mem a _ fresh]
      exact tripPocket_record_self a s q
    · rw [ih once _ (List.mem_of_ne_of_mem same mem), tripPocket_record_ne a s same, tripPocket_names a s same,
        tripPocket_names a s same]

/-- What holds of a pocket by its own record is not changed by treating another pocket: taken over one pocket first and then
over the rest, it is taken over all of them. -/
theorem or_and_eq_mem_cons_and {p : PocketNo} {g h : PocketNo → Bool} (fresh : p ∉ ps)
    (other : ∀ q, q ≠ p → h q = g q) (q : PocketNo) :
    ((q == p && g p) || (decide (q ∈ ps) && h q)) = (decide (q ∈ p :: ps) && g q) := by
  by_cases same : q = p
  · subst same; simp [fresh]
  · simp [same, other q same]

theorem foldl_tripPocket_hold (once : ps.Nodup) (s : State) :
    (ps.foldl (tripPocket a) s).svl.hold =
      s.svl.hold.filter fun e => !(decide (e.pocket ∈ ps) && isHeld s e.pocket) := by
  induction ps generalizing s with
  | nil => simp
  | cons p ps ih =>
    obtain ⟨fresh, once⟩ := List.nodup_cons.mp once
    have other (q) (ne : q ≠ p) : isHeld (tripPocket a s p) q = isHeld s q := by
      rw [isHeld, tripPocket_record_ne a s ne, isHeld]
    rw [List.foldl_cons, ih once, tripPocket_hold, List.filter_filter]
    refine List.filter_congr fun e _ => ?_
    rw [← or_and_eq_mem_cons_and fresh other, Bool.not_or, Bool.and_comm]

theorem foldl_tripPocket_port (once : ps.Nodup) (s : State) (id : PortId) :
    (ps.foldl (tripPocket a) s).port id = (s.port id).loseAll fun q => decide (q ∈ ps) && isMeasuring s q := by
  induction ps generalizing s with
  | nil => exact (MeterPort.loseAll_of_none fun e _ => by simp).symm
  | cons p ps ih =>
    obtain ⟨fresh, once⟩ := List.nodup_cons.mp once
    have other (q) (ne : q ≠ p) : isMeasuring (tripPocket a s p) q = isMeasuring s q := by
      rw [isMeasuring, tripPocket_record_ne a s ne, isMeasuring]
    rw [List.foldl_cons, ih once, tripPocket_port, MeterPort.loseAll_loseAll]
    exact congrArg _ (funext (or_and_eq_mem_cons_and fresh other))

theorem foldl_tripPocket_bin (once : ps.Nodup) (s : State) (b : SortBin) :
    (ps.foldl (tripPocket a) s).bin b =
      (s.bin b).released (pulseRunning s b) (if a = .keepGraded then 0 else (ps.filter (isGradedFor s b)).length) := by
  induction ps generalizing s with
  | nil => simp
  | cons p ps ih =>
    obtain ⟨fresh, once⟩ := List.nodup_cons.mp once
    have rest : ps.filter (isGradedFor (tripPocket a s p) b) = ps.filter (isGradedFor s b) :=
      List.filter_congr fun q mem => by
        rw [isGradedFor, tripPocket_record_ne a s (show q ≠ p from fun e => fresh (by rwa [← e])), isGradedFor]
    have busy : pulseRunning (tripPocket a s p) b = pulseRunning s b := by
      simp only [pulseRunning, State.pulse, tripPocket_gates]
    rw [List.foldl_cons, ih once, tripPocket_bin, rest, busy, BinRec.released_released]
    congr 1
    by_cases keep : a = .keepGraded
    · simp [keep]
    · by_cases graded : isGradedFor s b p = true
      · simp [keep, graded, Nat.add_comm]
      · simp [keep, graded]

theorem foldl_tripPocket_drains (s : State) : Drains s (ps.foldl (tripPocket a) s) :=
  List.foldlRecOn ps (tripPocket a) (.refl s) fun t st p _ => st.trans (tripPocket_drains a t p)

end

/-! ## The pockets of the ring (R158) -/

theorem ringPockets_nodup (s : State) : (ringPockets s).Nodup := (List.nodup_finRange 32).filter _

theorem mem_ringPockets_iff (s : State) (q : PocketNo) : q ∈ ringPockets s ↔ q.val < s.ptk.ring.pockets := by
  simp [ringPockets, allPockets]

theorem filter_isGradedFor_ringPockets (s : State) (b : SortBin) :
    (ringPockets s).filter (isGradedFor s b) = (gradedFor s b).filter fun q => decide (q.val < s.ptk.ring.pockets) := by
  simp only [ringPockets, gradedFor, List.filter_filter, Bool.and_comm]
  rfl

theorem tripAction_record_of_inside {s : State} {q : PocketNo} (inside : q.val < s.ptk.ring.pockets) :
    (tripAction s).record q =
      (s.record q).map (Part.tripped s.trc.config.action ((s.port .a).names q) ((s.port .b).names q)) :=
  foldl_tripPocket_record_of_mem _ (ringPockets_nodup s) s ((mem_ringPockets_iff s q).mpr inside)

theorem tripAction_record_of_outside {s : State} {q : PocketNo} (outside : ¬q.val < s.ptk.ring.pockets) :
    (tripAction s).record q = s.record q :=
  foldl_tripPocket_record_of_not_mem _ s (mt (mem_ringPockets_iff s q).mp outside)

theorem tripAction_hold (s : State) :
    (tripAction s).svl.hold =
      s.svl.hold.filter fun e => !(decide (e.pocket.val < s.ptk.ring.pockets) && isHeld s e.pocket) := by
  rw [tripAction, foldl_tripPocket_hold _ (ringPockets_nodup s)]
  simp only [mem_ringPockets_iff]

theorem tripAction_port (s : State) (id : PortId) :
    (tripAction s).port id =
      (s.port id).loseAll fun q => decide (q.val < s.ptk.ring.pockets) && isMeasuring s q := by
  rw [tripAction, foldl_tripPocket_port _ (ringPockets_nodup s)]
  simp only [mem_ringPockets_iff]

theorem tripAction_bin (s : State) (b : SortBin) :
    (tripAction s).bin b =
      (s.bin b).released (pulseRunning s b)
        (if s.trc.config.action = .keepGraded then 0
        else ((gradedFor s b).filter fun q => decide (q.val < s.ptk.ring.pockets)).length) := by
  rw [tripAction, foldl_tripPocket_bin _ (ringPockets_nodup s), filter_isGradedFor_ringPockets]

theorem tripAction_drains (s : State) : Drains s (tripAction s) := foldl_tripPocket_drains _ s

/-- The trip action makes and empties no record. -/
theorem tripAction_occupiedCount (s : State) : occupiedCount (tripAction s) = occupiedCount s := by
  have same (q : PocketNo) : ((tripAction s).record q).isSome = (s.record q).isSome := by
    by_cases inside : q.val < s.ptk.ring.pockets
    · rw [tripAction_record_of_inside inside, Option.isSome_map]
    · rw [tripAction_record_of_outside inside]
  simp only [occupiedCount, same]

/-! ## The trigger around the action (R156, R157, R162) -/

theorem tripEntry_record_of_captured {s : State} {snap : Snapshot} (h : s.trc.record = .captured snap) (c : Cause) :
    (tripEntry s c).trc.record = .captured { snap with causes := snap.causes.add c } := by
  change captureRecord _ c = _
  simp only [captureRecord, State.modTrc_trc, State.setOpState_trc, h]

theorem tripEntry_record_of_not_captured {s : State} (h : ∀ snap, s.trc.record ≠ .captured snap) (c : Cause) :
    (tripEntry s c).trc.record = .captured { snapshot s c with causes := s.trc.causes.add c } := by
  change captureRecord _ c = _
  unfold captureRecord
  split
  · next snap captured => exact absurd captured (h snap)
  · rfl

theorem completeAtTrigger_tripAction_iff (s : State) (c : Cause) :
    completeAtTrigger (tripAction (tripEntry s c)) = true ↔ s.trc.config.action = .recirculate ∨ occupiedCount s = 0 := by
  have action : (tripAction (tripEntry s c)).trc.config = s.trc.config := by rw [tripAction_frame]; rfl
  have occupied : occupiedCount (tripEntry s c) = occupiedCount s := rfl
  simp only [completeAtTrigger, tripAction_occupiedCount, occupied, action, Bool.or_eq_true, beq_iff_eq]

/-- Settles O43: the trip controller by `tripTrigger_trc`, the flags by what the action drains, the rest by the frame. -/
theorem tripTriggerRecordsTheCause : Obligations.TripTriggerRecordsTheCause := by
  unfold Obligations.TripTriggerRecordsTheCause
  rintro c s t rfl
  have frame := tripTrigger_frame s c
  have trc := tripTrigger_trc s c
  refine ⟨⟨rfl, rfl⟩, congrArg State.ptk frame, by rw [trc], by rw [trc], by rw [trc], fun snap captured => ?captured,
    fun other => ?notCaptured, ?complete, congrArg State.svl frame, ?attention, ?frame⟩
  case captured => rw [trc, tripEntry_record_of_captured captured]
  case notCaptured => rw [trc, tripEntry_record_of_not_captured other]; rfl
  case complete => rw [trc]; exact completeAtTrigger_tripAction_iff s c
  case attention => exact (tripAction_drains (tripEntry s c)).attention
  case frame => rw [frame]; exact ⟨rfl, rfl, rfl, rfl, rfl⟩

/-- Settles O44: pocket by pocket, the hold list, each port and each bin, from what the trip action leaves of the state
after the trigger's first steps, which keep all four. -/
theorem tripActionsTreatEachPocket : Obligations.TripActionsTreatEachPocket := by
  unfold Obligations.TripActionsTreatEachPocket
  rintro c s t rfl
  refine ⟨fun q => ?record, tripAction_hold (tripEntry s c), fun id => ?port, fun b => ?bin,
    (tripAction_drains (tripEntry s c)).swapReady_iff⟩
  case record =>
    by_cases inside : q.val < s.ptk.ring.pockets
    · rw [if_pos (decide_eq_true inside)]
      refine (tripAction_record_of_inside (s := tripEntry s c) inside).trans
        (congrArg (Option.map · (s.record q)) (funext fun r => ?_))
      change r.tripped s.trc.config.action _ _ = _
      rcases r with ⟨_ | (_ | _) | _ | _ | _ | _⟩ <;> cases s.trc.config.action <;> rfl
    · rw [if_neg (by simpa using inside)]
      exact tripAction_record_of_outside (s := tripEntry s c) inside
  case port =>
    have port := tripAction_port (tripEntry s c) id
    exact ⟨fun none_lost => port.trans (if_pos none_lost), fun some_lost => port.trans (if_neg some_lost)⟩
  case bin => exact tripAction_bin (tripEntry s c) b

end Sys2Proof.Machine
end

section
/-! PROOF. What a command can do, said once. `Change` lists the single changes that commands are made of, each with the
conditions under which it is made, and `exec_happens` says that every command is a reset, a release, a pin change, or a
sequence of such changes with no reset held. Each law then asks only what the single changes do. -/

namespace Sys2Proof.Machine

/-! ## The single changes -/

/-- Two states of a port with the same list, timer, port state and balanced counters (R42, R57, R62): they differ in what the
receiver, the transmitter and the other counters hold. -/
structure MeterPort.Alike (m n : MeterPort) : Prop where
  state : n.state = m.state
  entries : n.entries = m.entries
  timer : n.timer = m.timer
  sent : n.counts.sent = m.counts.sent
  taken : n.counts.taken = m.counts.taken
  lost : n.counts.lost = m.counts.lost
  expired : n.counts.expired = m.counts.expired

/-- Two records of one part (R5, R16). -/
structure Part.Same (r w : Part) : Prop where
  serial : w.serial = r.serial
  tag : w.tag = r.tag

/-- No outstanding entry of either port names the pocket. -/
def Unnamed (s : State) (p : PocketNo) : Prop := ∀ id, (s.port id).names p = false

/-- The first half of a meter fault: the port FAULTED with its entries LOST and METER_FAULT raised (R58). -/
def faultPort (s : State) (id : PortId) : State :=
  ((writeLost s id (s.port id).entries).modPort id MeterPort.faulted).raise .meterFault

/-- What the link's own events make of it: the hold list and the attention flags stay (R170 to R173). -/
inductive LinkChange : Svl → Svl → Prop
  | answer (v : Svl) (r : Response) : LinkChange v (v.answer r)
  | start (v : Svl) (listening : v.ignoring = false) :
      LinkChange v { v with outgoing := some v.pending, next := none, taken := false, collected := none }
  | nopTaken (v : Svl) (inside : v.outgoing.isSome = true) : LinkChange v { v with taken := true }
  | nopPending (v : Svl) : LinkChange v { v with pending := .nop }
  | rise (v : Svl) : LinkChange v { v with ignoring := false }
  | ended (v : Svl) (out : Response) (clocked : Nat) : LinkChange v (v.ended out clocked)

/-- What an accepted request makes of the state before its answer, by its opcode (Table 10.9). -/
inductive OwnerChange : Byte → State → State → Prop
  | attention (s) : OwnerChange 0x02 s { s with svl := { s.svl with attention := .none } }
  | verdictSweep (s p r) (h : s.record p = some r) (held : r.state = .held) :
      OwnerChange 0x04 s (dropHold (s.setRecord p (some { r with state := .graded .sweep })) p)
  | verdictBin (s p r b o) (h : s.record p = some r) (held : r.state = .held) (granted : (s.bin b).grants o = true) :
      OwnerChange 0x04 s (dropHold ((grant s b).setRecord p (some { r with state := .graded (.bin b) })) p)
  | verdictRetest (s p r k) (h : s.record p = some r) (held : r.state = .held) (tag : r.tag = some k)
      (below : r.retests < (s.bank k).lot.retestLimit) :
      OwnerChange 0x04 s (dropHold (s.setRecord p (some { r with retests := r.retests + 1, state := .retest })) p)
  | ring (s r) (empty : ∀ p : PocketNo, p.val < s.ptk.ring.pockets → s.record p = none) (valid : r.valid = true) :
      OwnerChange 0x10 s (setRing s r)
  | start (s) (idle : s.ptk.opState = .idle) (active : (activeBank s).isSome = true) :
      OwnerChange 0x11 s (s.setOpState .run)
  | stop (s) (run : s.ptk.opState = .run) : OwnerChange 0x12 s (s.setOpState .idle)
  | clearTrack (s) (notRun : s.ptk.opState ≠ .run) : OwnerChange 0x13 s (clearTrack s)
  | aux (s fs) : OwnerChange 0x18 s { s with ttp := { s.ttp with aux := fs } }
  | timeout (s id ms) : OwnerChange 0x20 s (s.modPort id fun m => { m with timeoutMs := ms })
  | restore (s id) (faulted : (s.port id).state = .faulted) :
      OwnerChange 0x21 s (s.modPort id fun m => { m with state := .online })
  | write (op s k f) (running : s.ptk.opState ≠ .tripped) (standby : (s.bank k).state = .standby)
      (state : (f (s.bank k)).state = (s.bank k).state) (onRing : (f (s.bank k)).onRing = (s.bank k).onRing)
      (counts : (f (s.bank k)).counts = (s.bank k).counts) : OwnerChange op s (s.modBank k f)
  | activateDraining (s k) (draining : (s.bank k).state = .draining) : OwnerChange 0x34 s (switchTo s k)
  | activateStandby (s k) (standby : (s.bank k).state = .standby) :
      OwnerChange 0x34 s (switchTo (s.modCounts k fun _ => .zero) k)
  | closeBin (s b) (unreserved : (s.bin b).reserved = 0) (idle : pulseRunning s b = false) :
      OwnerChange 0x40 s (s.setBin b { s.bin b with state := .closed })
  | resizeBin (s b capacity margin) (positive : 1 ≤ capacity)
      (room : (s.bin b).filled + (s.bin b).reserved ≤ capacity + margin) : OwnerChange 0x40 s (resizeBin s b capacity margin)
  | swapBegin (s b) (inUse : (s.bin b).state = .opened ∨ (s.bin b).state = .full) : OwnerChange 0x42 s (beginSwap s b)
  | swapDone (s b) (exchange : (s.bin b).state = .exchange) : OwnerChange 0x43 s (s.setBin b (s.bin b).swapped)
  | setDrift (s c) (range : c.inRange = true) : OwnerChange 0x50 s (s.modDrm fun d => { d with config := c })
  | clearDrift (s) : OwnerChange 0x52 s (s.modDrm fun d => { d with latch := false })
  | setTrip (s c) (running : s.ptk.opState ≠ .tripped) : OwnerChange 0x60 s (s.modTrc fun t => { t with config := c })
  | trip (s) : OwnerChange 0x61 s (tripTrigger s .command)
  | readTrip (s) : OwnerChange 0x62 s (s.modTrc fun t => { t with record := t.record.marked })
  | clearTrip (s) (tripped : s.ptk.opState = .tripped) (met : (conditionsUnmet s).any id = false) :
      OwnerChange 0x63 s (clearTrip s)

/-- The single changes that a command other than the resets, the release and the GPOL pin is made of. Only an index arrival
moves the ring and counts the period, only a load creates a record or counts a conflict, and a request's effect is its own command's, or that of a
transaction's end with its opcode. -/
inductive Change (c : Instr) : State → State → Prop
  | void (s p) : Change c s (voidPocket s p)
  | recirc (s p) : Change c s (recircPocket s p)
  | trip (s cause) : Change c s (tripTrigger s cause)
  | fault (s id) : Change c s (faultPort s id)
  | raise (s f) : Change c s (s.raise f)
  | endPulse (s l) : Change c s (endPulse s l)
  | drain (s b) : Change c s (drainTest s b)
  | fire (s p r b) (h : s.record p = some r) (graded : r.state = .graded (.bin b)) : Change c s (firePocket s p r b)
  | sweep (s p r) (h : s.record p = some r) (out : r.state = .graded .sweep ∨ r.state = .void) : Change c s (sweepOut s p)
  | sweepHeld (s p r) (h : s.record p = some r) (held : r.state = .held) : Change c s (sweepOut (dropHold s p) p)
  | expire (s id p) : Change c s (expireEntry s id p)
  | classed (s k cls) : Change c s (s.modCounts k fun n => n.classed cls)
  | gradeSweep (s p r w) (h : s.record p = some r) (measuring : r.state = .measuring) (unnamed : Unnamed s p)
      (same : r.Same w) (retests : w.retests = r.retests) (graded : w.state = .graded .sweep) :
      Change c s (s.setRecord p (some w))
  | gradeBin (s p r w b o) (h : s.record p = some r) (measuring : r.state = .measuring) (unnamed : Unnamed s p)
      (same : r.Same w) (retests : w.retests = r.retests) (graded : w.state = .graded (.bin b))
      (granted : (s.bin b).grants o = true) : Change c s ((grant s b).setRecord p (some w))
  | retest (s p r w k) (h : s.record p = some r) (measuring : r.state = .measuring) (unnamed : Unnamed s p)
      (same : r.Same w) (retests : w.retests = r.retests + 1) (state : w.state = .retest) (tag : r.tag = some k)
      (below : r.retests < (s.bank k).lot.retestLimit) : Change c s (s.setRecord p (some w))
  | hold (s p r w cls) (h : s.record p = some r) (measuring : r.state = .measuring) (unnamed : Unnamed s p)
      (same : r.Same w) (retests : w.retests = r.retests) (state : w.state = .held) (grade : w.grade = .byClass cls)
      (room : s.svl.hold.length < 4) :
      Change c s ((s.setRecord p (some w)).setHold (s.svl.hold ++ [⟨p, r.serial, cls⟩]))
  | sample (s v) : Change c s (sampleArrival s v)
  | badReference (s) : Change c s (badReference s)
  | pass (s p r) (h : s.record p = some r) (waits : r.state = .retest ∨ r.state = .recirc) :
      Change c s (s.setRecord p (some r.cleared))
  | retestRev (s k) : Change c s (s.modCounts k fun n => { n with retestRevs := n.retestRevs + 1 })
  | trigger (s id p r x) (h : s.record p = some r) (measuring : r.state = .measuring)
      (unnamed : (s.port id).names p = false) (online : (s.port id).state = .online)
      (room : (s.port id).entries.length < 4) : Change c s (s.modPort id fun m => m.triggered p x)
  | skip (s id p) : Change c s (s.modPart p fun r => r.setResult id .skipped)
  | answerTaken (s id f) : Change c s (matchFrame s id f)
  | listen (s id f) (alike : (s.port id).Alike (f (s.port id))) : Change c s (s.modPort id f)
  | arrive (s home contact convalid) (index : indexes c = true) : Change c s (arrive home contact convalid s)
  | count (s) (index : indexes c = true) : Change c s (s.modDrm Drm.counted)
  | create (s st refsel) (load : loads c = true) (empty : s.record (pocketAt s 0) = none)
      (state : st = .measuring ∨ st = .void) :
      Change c s (createRecord s (pocketAt s 0) st (activeBank s) refsel)
  | conflict (s) (n : Count16) (load : loads c = true) : Change c s { s with ptk := { s.ptk with conflicts := n } }
  | productLoad (s) : Change c s (productLoad s)
  | levels (s t) (held : t.held = s.ttp.held) : Change c s { s with ttp := t }
  | complete (s) : Change c s (completionTest s)
  | bankReturn (s k) : Change c s (bankReturn s k)
  | link (s v) (move : LinkChange s.svl v) : Change c s { s with svl := v }
  | owner (s t op) (asked : asks op c = true) (move : OwnerChange op s t) : Change c s t

/-- Several single changes, one after another. -/
abbrev Changes (c : Instr) : State → State → Prop := Relation.ReflTransGen (Change c)

section
variable {c : Instr}

theorem Change.one {s t : State} (h : Change c s t) : Changes c s t := .single h

theorem Changes.of_eq {s t : State} (h : t = s) : Changes c s t := by subst h; exact .refl

theorem Changes.foldl {α : Type} {f : State → α → State} (h : ∀ s x, Changes c s (f s x)) (xs : List α) (s : State) :
    Changes c s (xs.foldl f s) :=
  List.foldlRecOn xs f .refl fun t st x _ => st.trans (h t x)

/-- What every single change keeps, several keep. -/
theorem Changes.keeps {P : State → Prop} (keeps : ∀ a b, Change c a b → P a → P b) {s t : State} (h : Changes c s t)
    (hs : P s) : P t := by
  induction h with
  | refl => exact hs
  | tail _ last ih => exact keeps _ _ last ih

/-! ## Expiries of meter timers -/

theorem meterFault_eq (s : State) (id : PortId) :
    meterFault s id =
      if s.trc.config.onMeterFault then tripTrigger (faultPort s id) (faultCause id) else faultPort s id := rfl

theorem meterFault_changes (s : State) (id : PortId) : Changes c s (meterFault s id) := by
  rw [meterFault_eq]
  have fault : Changes c s (faultPort s id) := (Change.fault s id).one
  split
  · exact fault.tail (.trip _ _)
  · exact fault

theorem expireWhere_changes (test : State → PortId → Bool) (s : State) : Changes c s (expireWhere test s) :=
  expireWhere_induct (P := Changes c s) (fun t id _ st => st.trans (meterFault_changes t id)) .refl

theorem settleTimers_changes {s t : State} (h : Changes c s t) : Changes c s (settleTimers s t) :=
  h.trans (expireWhere_changes _ t)

/-! ## The gate driver's share -/

theorem fireGate_changes (s : State) (b : SortBin) : Changes c s (fireGate s b) := by
  rcases h : s.record (pocketAt s s.ptk.ring.gates[b]) with _ | r
  · exact .of_eq (by simp only [fireGate, h])
  · by_cases graded : r.state = .graded (.bin b)
    · simpa only [fireGate, h, if_pos graded] using (Change.fire s _ r b h graded).one
    · exact .of_eq (by simp only [fireGate, h, if_neg graded])

/-- A voided pocket holds a VOID record, whatever its record was. -/
theorem voidPocket_record_void {s : State} {p : PocketNo} {r : Part} (h : s.record p = some r) :
    ∃ w, (voidPocket s p).record p = some w ∧ w.state = .void := by
  by_cases void : r.state = .void
  · exact ⟨r, by rw [voidPocket_of_void h void, h], void⟩
  · have some_handOff : ((handOff s p r.state).record p).isSome = true := by
      rcases state : r.state with _ | (_ | b) | _ | _ | _ | _
      case measuring => simp [handOff, loseEntries_of_some h]
      case graded.bin => simp [handOff, State.record, release_ptk]; exact Option.isSome_of_eq_some h
      all_goals exact Option.isSome_of_eq_some h
    obtain ⟨w, hw⟩ := Option.isSome_iff_exists.mp some_handOff
    refine ⟨w.voided, ?_, rfl⟩
    simp only [voidPocket, h, if_neg void]
    rw [modPart_of_some hw, State.record_setRecord_same]

theorem sweepAtW_changes (s : State) : Changes c s (sweepAtW s) := by
  rcases h : s.record (pocketAt s s.ptk.ring.sweep) with _ | r
  · exact .of_eq (by simp only [sweepAtW, h])
  rcases state : r.state with _ | (_ | b) | _ | _ | _ | _
  case graded.sweep => simpa only [sweepAtW, h, state] using (Change.sweep s _ r h (.inl state)).one
  case void => simpa only [sweepAtW, h, state] using (Change.sweep s _ r h (.inr state)).one
  case held => simpa only [sweepAtW, h, state] using (Change.sweepHeld s _ r h state).one
  case graded.bin =>
    obtain ⟨w, hw, void⟩ := voidPocket_record_void h
    simpa only [sweepAtW, h, state] using (Change.void s _).one.tail (.sweep _ _ w hw (.inr void))
  all_goals exact .of_eq (by simp only [sweepAtW, h, state])

theorem gateShare_changes (s : State) : Changes c s (gateShare s) :=
  ((Changes.foldl (fun t l => (Change.endPulse t l).one) _ s).trans (Changes.foldl fireGate_changes _ _)).trans
    (sweepAtW_changes _)

/-! ## The passes and the triggers -/

theorem passShare_changes (s : State) : Changes c s (passShare s) := by
  rcases h : s.record (pocketAt s 0) with _ | r
  · exact .of_eq (by simp only [passShare, h])
  rcases state : r.state with _ | _ | _ | _ | _ | _
  case retest =>
    have pass : Changes c s _ := (Change.pass s _ r h (.inl state)).one
    rcases tag : r.tag with _ | k
    · simpa only [passShare, h, state, tag] using pass
    · simpa only [passShare, h, state, tag] using pass.tail (.retestRev _ k)
  case recirc => simpa only [passShare, h, state] using (Change.pass s _ r h (.inr state)).one
  all_goals exact .of_eq (by simp only [passShare, h, state])

/-- A trigger is due for a MEASURING pocket with no entry on the port, and only if (R44). -/
theorem triggerDue_eq_some {s : State} {id : PortId} {p : PocketNo} {k : BankId} :
    triggerDue s id p = some k ↔
      ∃ r, s.record p = some r ∧ r.tag = some k ∧ r.state = .measuring ∧ r.contact ≠ some .fail ∧ r.result id = none ∧
        (s.port id).names p = false ∧ (s.port id).state ≠ .absent ∧ (id = .b → (s.bank k).lot.verify = true) := by
  unfold triggerDue
  rcases h : s.record p with _ | r
  · simp
  · rcases tag : r.tag with _ | j
    · simp [tag]
    · simp only [tag, MeterPort.naming_eq_nil_iff, Option.ite_none_right_eq_some, Option.some.injEq, exists_eq_left']
      constructor
      · rintro ⟨due, rfl⟩; exact ⟨rfl, due⟩
      · rintro ⟨rfl, due⟩; exact ⟨due, rfl⟩

theorem triggerAt_changes (s : State) (id : PortId) : Changes c s (triggerAt s id) := by
  unfold triggerAt
  dsimp only
  split
  · exact .refl
  next k due =>
    obtain ⟨r, h, -, measuring, -, -, unnamed, -, -⟩ := triggerDue_eq_some.mp due
    split
    next online =>
      split
      next room => exact (Change.trigger s id _ r _ h measuring unnamed online room).one
      next => exact (Change.listen s id _ ⟨rfl, rfl, rfl, rfl, rfl, rfl, rfl⟩).one.tail (.skip _ id _)
    next => exact .refl

/-! ## The grading -/

/-- The bin that a list gives is one that grants, and the state is the one after its grant (R98). -/
theorem reserveFirst_eq_some {s : State} {bins : List SortBin} {b : SortBin} {t : State} (found : reserveFirst s bins = some (b, t)) :
    (s.bin b).grants false = true ∧ t = grant s b := by
  induction bins with
  | nil => cases found
  | cons x bins ih =>
    rcases granted : reserve s x false with _ | u
    · simp only [reserveFirst, granted] at found; exact ih found
    · simp only [reserveFirst, granted] at found
      cases found
      exact reserve_eq_some.mp granted

theorem expireEntry_record (s : State) (id : PortId) (p q : PocketNo) : (expireEntry s id p).record q = s.record q := by
  rw [expireEntry_frame]; rfl

theorem expireEntry_bank (s : State) (id : PortId) (p : PocketNo) (k : BankId) : (expireEntry s id p).bank k = s.bank k := by
  rw [expireEntry_frame]; cases k <;> rfl

theorem expireEntry_unnames (s : State) (id : PortId) (p : PocketNo) : ((expireEntry s id p).port id).names p = false := by
  unfold expireEntry
  split
  next none_named => exact (MeterPort.naming_eq_nil_iff _ p).mp none_named
  next =>
    rw [State.port_modPort_same]
    simp [MeterPort.names, MeterPort.without]

theorem expireEntry_port_other (s : State) (p : PocketNo) {id other : PortId} (ne : other ≠ id) :
    (expireEntry s id p).port other = s.port other := by
  unfold expireEntry
  split
  · rfl
  · cases id <;> cases other <;> first | rfl | exact absurd rfl ne

theorem unnamed_of_expired (s : State) (p : PocketNo) : Unnamed (expireEntry (expireEntry s .a p) .b p) p
  | .a => by rw [expireEntry_port_other _ p (by decide)]; exact expireEntry_unnames s .a p
  | .b => expireEntry_unnames _ .b p

section
variable {s : State} {p : PocketNo} {r : Part} (h : s.record p = some r) (measuring : r.state = .measuring)
  (unnamed : Unnamed s p)
include h measuring unnamed

/-- GRADED with a bin that grants, or with bin 0. -/
theorem graded_changes {w : Part} (same : r.Same w) (retests : w.retests = r.retests) (dest : Dest) (o : Bool) :
    Changes c s (gradeInto (s.setRecord p (some w)) p dest o) := by
  rcases dest with _ | b
  · rw [gradeInto_sweep_setRecord]
    exact .single (.gradeSweep s p r _ h measuring unnamed ⟨same.serial, same.tag⟩ retests rfl)
  · rw [gradeInto_bin_setRecord]
    split
    next granted =>
      exact .single (.gradeBin s p r _ b o h measuring unnamed ⟨same.serial, same.tag⟩ retests rfl granted)
    next => exact .single (.gradeSweep s p r _ h measuring unnamed ⟨same.serial, same.tag⟩ retests rfl)

theorem classAction_changes {k : BankId} (cls : PartClass) (tag : r.tag = some k) (d : Option Deviation) :
    Changes c s (classAction (s.setRecord p (some { r with deviation := d, grade := .byClass cls })) p k r cls) := by
  have graded (dest : Dest) (o : Bool) :=
    graded_changes (c := c) h measuring unnamed (w := { r with deviation := d, grade := .byClass cls }) ⟨rfl, rfl⟩ rfl dest o
  have record := State.record_setRecord_same s p (some { r with deviation := d, grade := .byClass cls })
  have bank : (s.setRecord p (some { r with deviation := d, grade := .byClass cls })).bank k = s.bank k :=
    State.bank_setRecord s p _ k
  rcases kind : ((s.bank k).action cls).kind with _ | _ | _ <;> rw [← bank] at kind
  case bin => rw [classAction_of_bin kind]; exact graded _ _
  case retest =>
    rcases Nat.lt_or_ge r.retests (s.bank k).lot.retestLimit with below | spent
    · rw [classAction_of_retest record kind (by rwa [bank]), State.setRecord_setRecord]
      exact .single (.retest s p r _ k h measuring unnamed ⟨rfl, rfl⟩ rfl rfl tag below)
    · rw [classAction_of_retest_limit kind (by rwa [bank])]; exact graded _ _
  case hold =>
    rcases Nat.lt_or_ge s.svl.hold.length 4 with room | full
    · rw [classAction_of_hold record kind room, State.setRecord_setRecord]
      refine .tail (.single ?_) (.raise _ .holdWaiting)
      exact .hold s p r _ cls h measuring unnamed ⟨rfl, rfl⟩ rfl rfl rfl room
    · rw [classAction_of_hold_full kind full]; exact graded _ _

end

section
variable {s : State} {p : PocketNo} {r : Part} {k : BankId} (h : s.record p = some r) (measuring : r.state = .measuring)
  (unnamed : Unnamed s p) (tag : r.tag = some k)
include h measuring unnamed tag

theorem raiseClass_changes (cls : PartClass) (d : Option Deviation) : Changes c s (raiseClass s p k r cls d) := by
  rw [raiseClass_of_some h]
  have counted : (s.modCounts k fun n => n.classed cls).record p = some r := (State.record_modBank s k _ p).trans h
  have still : Unnamed (s.modCounts k fun n => n.classed cls) p := fun id => by
    rw [← unnamed id]; cases k <;> cases id <;> rfl
  exact Relation.ReflTransGen.head (.classed s k cls) (classAction_changes counted measuring still cls tag d)

theorem windowTest_changes (d : Deviation) : Changes c s (windowTest s p k r d) := by
  rcases found : firstMatch (s.bank k) (gradingGuard s k) d.ppm with _ | e
  · rw [windowTest_of_no_match found]; exact raiseClass_changes h measuring unnamed tag _ _
  rcases taken : reserveFirst s (((s.bank k).entries[e]).primary :: ((s.bank k).entries[e]).spill) with _ | ⟨b, t⟩
  · rw [windowTest_of_exhausted found taken]; exact raiseClass_changes h measuring unnamed tag _ _
  · obtain ⟨granted, rfl⟩ := reserveFirst_eq_some taken
    rw [windowTest_of_taken h found taken]
    exact .single (.gradeBin s p r _ b false h measuring unnamed ⟨rfl, rfl⟩ rfl rfl granted)

theorem gradeOutcome_changes (o : DvuOutcome) : Changes c s (gradeOutcome s p k r o) := by
  cases o with
  | value d => exact windowTest_changes h measuring unnamed tag d
  | _ => exact raiseClass_changes h measuring unnamed tag _ _

theorem gradeProduct_changes : Changes c s (gradeProduct s p k r) := by
  have raised (cls : PartClass) := raiseClass_changes (c := c) h measuring unnamed tag cls none
  unfold gradeProduct
  dsimp only
  split
  · exact raised _
  · split
    · exact raised _
    · split
      · split
        · exact raised _
        · exact gradeOutcome_changes h measuring unnamed tag _
      · exact gradeOutcome_changes h measuring unnamed tag _

omit tag in
theorem gradeReference_changes : Changes c s (gradeReference s p k r) := by
  have graded (d : Option Deviation) :
      Changes c s ((gradeInto s p (.bin (s.bank k).lot.refBin) true).modPart p fun r => { r with deviation := d }) := by
    have written := graded_changes (c := c) h measuring unnamed (w := { r with deviation := d }) ⟨rfl, rfl⟩ rfl
      (.bin (s.bank k).lot.refBin) true
    rwa [gradeInto_bin_setRecord, ← gradeInto_bin_deviation h] at written
  rcases sample : referenceSample (s.bank k).lot r with _ | ⟨d, v⟩
  · rw [gradeReference_of_no_sample p sample]; exact (graded _).tail (.badReference _)
  · rw [gradeReference_of_sample p sample]; exact (graded _).tail (.sample _ v)

end

theorem gradeAtDecision_changes (s : State) : Changes c s (gradeAtDecision s) := by
  unfold gradeAtDecision
  dsimp only
  have expired : Changes c s (expireEntry (expireEntry s .a (pocketAt s s.ptk.ring.decision)) .b _) :=
    (Change.expire s .a _).one.tail (.expire _ .b (pocketAt s s.ptk.ring.decision))
  have unnamed := unnamed_of_expired s (pocketAt s s.ptk.ring.decision)
  split
  · exact expired
  next r h =>
    split
    next measuring =>
      refine expired.trans ?_
      unfold gradeRecord
      split
      next id _ tag =>
        split
        · exact (Change.recirc _ _).one
        · exact gradeProduct_changes h measuring unnamed tag
      · exact gradeReference_changes h measuring unnamed
      · exact .refl
    next => exact expired

/-- Every share of an index arrival but the drift monitor's count is made of changes that any command may make. -/
theorem takeShare_changes (slipped : Bool) (s : State) {x : Share} (notDrift : x ≠ .drift) :
    Changes c s (takeShare slipped s x) := by
  cases x with
  | slip =>
    cases slipped with
    | true => exact (Change.trip s .slip).one
    | false => exact .refl
  | passes => exact passShare_changes s
  | triggers => exact (triggerAt_changes s .a).trans (triggerAt_changes _ .b)
  | grading => exact gradeAtDecision_changes s
  | gates => exact gateShare_changes s
  | drift => exact absurd rfl notDrift

theorem indexEvent_changes (index : indexes c = true) (home contact convalid : Bool) (order : List Share) (s : State) :
    Changes c s (indexEvent home contact convalid order s) := by
  have share (slipped : Bool) (t : State) (x : Share) : Changes c t (takeShare slipped t x) := by
    by_cases drift : x = .drift
    · subst drift; exact (Change.count t index).one
    · exact takeShare_changes slipped t drift
  exact settleTimers_changes ((Change.arrive s home contact convalid index).one.trans (Changes.foldl (share _) _ _))

/-! ## Loads, the receiver, the pulses -/

theorem loadEvent_changes (load : loads c = true) (refsel : Bool) (s : State) : Changes c s (loadEvent refsel s) := by
  refine settleTimers_changes (.trans (Change.levels s { s.ttp with loadLevel := true } rfl).one ?_)
  generalize { s with ttp := { s.ttp with loadLevel := true } } = u
  unfold loadArrival
  dsimp only
  split
  · exact (Change.void u _).one.tail (.conflict _ _ load)
  next empty =>
    split
    · have created : Changes c u _ := (Change.create u .measuring refsel load empty (.inl rfl)).one
      cases refsel with
      | true => exact created
      | false => exact created.tail (.productLoad _)
    · exact (Change.create u .void refsel load empty (.inr rfl)).one

theorem receiveByte_changes (s : State) (id : PortId) (b : Byte) : Changes c s (receiveByte s id b) := by
  have listens (f : MeterPort → MeterPort) (alike : (s.port id).Alike (f (s.port id))) : Changes c s (s.modPort id f) :=
    (Change.listen s id f alike).one
  unfold receiveByte
  dsimp only
  split
  · exact .refl
  split
  · exact .refl
  split
  · exact listens _ ⟨rfl, rfl, rfl, rfl, rfl, rfl, rfl⟩
  unfold frameComplete
  split
  next f _ _ =>
    refine (listens (fun m => { m with rx := [] }) ⟨rfl, rfl, rfl, rfl, rfl, rfl, rfl⟩).trans ?_
    unfold acceptFrame
    split
    · exact (Change.listen _ id _ ⟨rfl, rfl, rfl, rfl, rfl, rfl, rfl⟩).one
    split
    · exact (Change.answerTaken _ id f).one
    · exact (Change.listen _ id _ ⟨rfl, rfl, rfl, rfl, rfl, rfl, rfl⟩).one
  · exact listens _ ⟨rfl, rfl, rfl, rfl, rfl, rfl, rfl⟩

theorem takeByte_changes (id : PortId) (s : State) (b : Byte) : Changes c s (takeByte id s b) :=
  settleTimers_changes (receiveByte_changes s id b)

theorem expirePulse_changes (s : State) (l : Line) : Changes c s (expirePulse s l) := by
  unfold expirePulse
  split
  · split
    · exact (Change.endPulse s l).one
    · exact .refl
  · exact .refl

end

end Sys2Proof.Machine
end

section
/-! PROOF. What the owners of the requests do (Table 10.9), and what a command and a step are made of: `exec_happens` and
`step_keeps`. -/

namespace Sys2Proof.Machine

/-! ## The owners' answers -/

/-- An owner's answer: nothing changes, or the request is answered OK with one of its changes (R174). -/
def Answers (op : Byte) (s : State) (out : State × Reply) : Prop :=
  out.1 = s ∨ (out.2.status = .ok ∧ OwnerChange op s out.1)

theorem Answers.same {op : Byte} {s : State} (r : Reply) : Answers op s (s, r) := .inl rfl

section
variable (p : List Byte) (s : State)

theorem ownReadAttention_answers : Answers 0x02 s (ownReadAttention p s) := .inr ⟨rfl, .attention s⟩

theorem rule_answers {q : PocketNo} {r : Part} (h : s.record q = some r) (held : r.state = .held) (kind : VerdictKind)
    (dest : Dest) :
    (rule s q r kind dest).1 = s ∨ ((rule s q r kind dest).2 = .ok ∧ OwnerChange 0x04 s (rule s q r kind dest).1) := by
  unfold rule
  split
  · rw [modPart_of_some h]; exact .inr ⟨rfl, .verdictSweep s q r h held⟩
  · split
    · exact .inl rfl
    · split
      next t taken =>
        obtain ⟨granted, rfl⟩ := reserve_eq_some.mp taken
        rw [modPart_of_some ((record_grant s _ q).trans h)]
        exact .inr ⟨rfl, .verdictBin s q r _ _ h held granted⟩
      next => exact .inl rfl
  · split
    next below =>
      rcases tag : r.tag with _ | k
      · simp [retestLimitOf, tag] at below
      · rw [modPart_of_some h]
        exact .inr ⟨rfl, .verdictRetest s q r k h held tag (by simpa only [retestLimitOf, tag] using below)⟩
    next => exact .inl rfl

theorem ownVerdict_answers : Answers 0x04 s (ownVerdict p s) := by
  unfold ownVerdict
  split
  · split
    next q kind dest _ _ _ =>
      unfold judge
      dsimp only
      split
      · exact .inl rfl
      next r h =>
        split
        next held => exact rule_answers s h held kind dest
        next => exact .inl rfl
    · exact .inl rfl
  · exact .inl rfl

theorem ownSetRing_answers : Answers 0x10 s (ownSetRing p s) := by
  unfold ownSetRing
  split
  · exact .inl rfl
  split
  · exact .inl rfl
  next occupied =>
    split
    · exact .inl rfl
    next valid =>
      exact .inr ⟨rfl, .ring s _ ((ringEmpty_iff s).mp (Bool.eq_true_of_not_eq_false occupied))
        (Bool.eq_true_of_not_eq_false valid)⟩

theorem ownStart_answers : Answers 0x11 s (ownStart p s) := by
  unfold ownStart
  split
  · exact .inl rfl
  · exact .inl rfl
  next idle =>
    split
    next active => exact .inr ⟨rfl, .start s idle active⟩
    next => exact .inl rfl

theorem ownStop_answers : Answers 0x12 s (ownStop p s) := by
  unfold ownStop
  split
  · exact .inl rfl
  next run => exact .inr ⟨rfl, .stop s run⟩
  · exact .inl rfl

theorem ownClearTrack_answers : Answers 0x13 s (ownClearTrack p s) := by
  unfold ownClearTrack
  split
  · exact .inl rfl
  next notRun => exact .inr ⟨rfl, .clearTrack s notRun⟩

theorem ownReadPocket_answers : Answers 0x14 s (ownReadPocket p s) := by
  unfold ownReadPocket
  split
  · split <;> exact .inl rfl
  · exact .inl rfl

theorem ownSetAux_answers : Answers 0x18 s (ownSetAux p s) := by
  unfold ownSetAux
  split
  · split
    · exact .inl rfl
    split
    · split
      · exact .inl rfl
      · exact .inr ⟨rfl, .aux s _⟩
    · exact .inl rfl
  · exact .inl rfl

theorem ownSetMeter_answers : Answers 0x20 s (ownSetMeter p s) := by
  unfold ownSetMeter
  split
  · split
    · exact .inl rfl
    next id _ =>
      split
      · exact .inl rfl
      split
      · exact .inl rfl
      · exact .inr ⟨rfl, .timeout s id _⟩
  · exact .inl rfl

theorem ownRestoreMeter_answers : Answers 0x21 s (ownRestoreMeter p s) := by
  unfold ownRestoreMeter
  split
  · split
    · exact .inl rfl
    next id _ =>
      split
      next faulted => exact .inr ⟨rfl, .restore s id faulted⟩
      next => exact .inl rfl
  · exact .inl rfl

theorem ownReadMeter_answers : Answers 0x22 s (ownReadMeter p s) := by
  unfold ownReadMeter
  split
  · split <;> exact .inl rfl
  · exact .inl rfl

/-- A bank that passes the common checks is STANDBY, and the state is not TRIPPED (R85). -/
theorem writableBank_eq_ok {code : Byte} {k : BankId} (h : writableBank s code = .ok k) :
    s.ptk.opState ≠ .tripped ∧ (s.bank k).state = .standby := by
  unfold writableBank at h
  split at h
  · cases h
  · split at h
    · cases h
    next running =>
      split at h
      next standby => cases h; exact ⟨running, standby⟩
      next => cases h

theorem write_answers {op : Byte} {k : BankId} {f : Bank → Bank} (running : s.ptk.opState ≠ .tripped)
    (standby : (s.bank k).state = .standby) (state : (f (s.bank k)).state = (s.bank k).state)
    (onRing : (f (s.bank k)).onRing = (s.bank k).onRing) (counts : (f (s.bank k)).counts = (s.bank k).counts) :
    Answers op s (s.modBank k f, bare .ok) :=
  .inr ⟨rfl, .write op s k f running standby state onRing counts⟩

theorem ownWriteLot_answers : Answers 0x30 s (ownWriteLot p s) := by
  unfold ownWriteLot
  split
  · split
    · exact .inl rfl
    next k writable =>
      obtain ⟨running, standby⟩ := writableBank_eq_ok s writable
      split
      · exact .inl rfl
      · exact write_answers s running standby rfl rfl rfl
  · exact .inl rfl

theorem ownWriteEntry_answers : Answers 0x31 s (ownWriteEntry p s) := by
  unfold ownWriteEntry
  split
  · split
    · exact .inl rfl
    next k writable =>
      obtain ⟨running, standby⟩ := writableBank_eq_ok s writable
      split
      · exact write_answers s running standby rfl rfl rfl
      · exact .inl rfl
  · exact .inl rfl

theorem ownWriteClass_answers : Answers 0x32 s (ownWriteClass p s) := by
  unfold ownWriteClass
  split
  · split
    · exact .inl rfl
    next k writable =>
      obtain ⟨running, standby⟩ := writableBank_eq_ok s writable
      split
      · exact write_answers s running standby rfl rfl rfl
      · exact .inl rfl
  · exact .inl rfl

theorem ownCopyBank_answers : Answers 0x33 s (ownCopyBank p s) := by
  unfold ownCopyBank
  split
  · split
    · exact .inl rfl
    next k writable =>
      obtain ⟨running, standby⟩ := writableBank_eq_ok s writable
      dsimp only
      split
      · exact .inl rfl
      · exact write_answers s running standby rfl rfl rfl
  · exact .inl rfl

theorem ownActivate_answers : Answers 0x34 s (ownActivate p s) := by
  unfold ownActivate
  split
  · split
    · exact .inl rfl
    next x _ =>
      split
      · exact .inl rfl
      split
      · exact .inl rfl
      next draining => exact .inr ⟨rfl, .activateDraining s x draining⟩
      next standby =>
        split
        · exact .inl rfl
        · exact .inr ⟨rfl, .activateStandby s x standby⟩
  · exact .inl rfl

theorem ownReadBank_answers : Answers 0x35 s (ownReadBank p s) := by
  unfold ownReadBank
  split
  · split <;> exact .inl rfl
  · exact .inl rfl

theorem ownReadLotCounts_answers : Answers 0x36 s (ownReadLotCounts p s) := by
  unfold ownReadLotCounts
  split
  · split <;> exact .inl rfl
  · exact .inl rfl

theorem ownSetBin_answers : Answers 0x40 s (ownSetBin p s) := by
  unfold ownSetBin
  split
  · split
    next b close _ _ =>
      dsimp only
      split
      · exact .inl rfl
      next positive =>
        cases close with
        | true =>
          by_cases closes : closable s b = true
          · obtain ⟨unreserved, idle⟩ := closable_iff.mp closes
            rw [setBinChecked_of_idle unreserved idle]
            exact .inr ⟨rfl, .closeBin s b unreserved idle⟩
          · simp only [setBinChecked, if_neg closes, if_true]; exact .inl rfl
        | false =>
          rcases Nat.lt_or_ge _ _ with noRoom | room
          · rw [setBinChecked_of_no_room noRoom]; exact .inl rfl
          · rw [setBinChecked_of_room room]
            exact .inr ⟨rfl, .resizeBin s b _ _ (Nat.pos_of_ne_zero positive) room⟩
    · exact .inl rfl
  · exact .inl rfl

theorem ownReadBin_answers : Answers 0x41 s (ownReadBin p s) := by
  unfold ownReadBin
  split
  · split <;> exact .inl rfl
  · exact .inl rfl

theorem ownSwapBegin_answers : Answers 0x42 s (ownSwapBegin p s) := by
  unfold ownSwapBegin
  split
  · split
    · exact .inl rfl
    next b _ =>
      split
      next inUse => exact .inr ⟨rfl, .swapBegin s b inUse⟩
      next => exact .inl rfl
  · exact .inl rfl

theorem ownSwapDone_answers : Answers 0x43 s (ownSwapDone p s) := by
  unfold ownSwapDone
  split
  · split
    · exact .inl rfl
    next b _ =>
      dsimp only
      split
      next exchange => exact .inr ⟨rfl, .swapDone s b exchange⟩
      next => exact .inl rfl
  · exact .inl rfl

/-- The drift parameters that a payload gives have passed the range test. -/
theorem inRange_of_driftConfigOf {p : List Byte} {c : DriftConfig} (h : driftConfigOf p = some c) : c.inRange = true := by
  unfold driftConfigOf at h
  split at h
  · dsimp only at h
    split at h
    next range => cases h; exact range
    next => cases h
  · cases h

theorem ownSetDrift_answers : Answers 0x50 s (ownSetDrift p s) := by
  unfold ownSetDrift
  split
  next c config => exact .inr ⟨rfl, .setDrift s c (inRange_of_driftConfigOf config)⟩
  next => exact .inl rfl

theorem ownClearDrift_answers : Answers 0x52 s (ownClearDrift p s) := by
  unfold ownClearDrift
  split
  · exact .inr ⟨rfl, .clearDrift s⟩
  · exact .inl rfl

theorem ownSetTrip_answers : Answers 0x60 s (ownSetTrip p s) := by
  unfold ownSetTrip
  split
  · split
    · exact .inl rfl
    next running =>
      split
      · exact .inl rfl
      next c _ => exact .inr ⟨rfl, .setTrip s c running⟩
  · exact .inl rfl

theorem ownTrip_answers : Answers 0x61 s (ownTrip p s) := .inr ⟨rfl, .trip s⟩

theorem ownReadTrip_answers : Answers 0x62 s (ownReadTrip p s) := .inr ⟨rfl, .readTrip s⟩

theorem ownClearTrip_answers : Answers 0x63 s (ownClearTrip p s) := by
  unfold ownClearTrip
  split
  · exact .inl rfl
  next tripped =>
    split
    · exact .inl rfl
    next met => exact .inr ⟨rfl, .clearTrip s (not_not.mp tripped) (Bool.eq_false_iff.mpr met)⟩

end

theorem owners_answer : ∀ entry ∈ owners, ∀ p s, Answers (BitVec.ofNat 8 entry.1) s (entry.2 p s) := by
  simp only [owners, List.forall_mem_cons]
  exact ⟨fun _ _ => .inl rfl, ownReadAttention_answers, fun _ _ => .inl rfl, ownVerdict_answers, ownSetRing_answers,
    ownStart_answers, ownStop_answers, ownClearTrack_answers, ownReadPocket_answers, fun _ _ => .inl rfl,
    ownSetAux_answers, ownSetMeter_answers, ownRestoreMeter_answers, ownReadMeter_answers, ownWriteLot_answers,
    ownWriteEntry_answers, ownWriteClass_answers, ownCopyBank_answers, ownActivate_answers, ownReadBank_answers,
    ownReadLotCounts_answers, ownSetBin_answers, ownReadBin_answers, ownSwapBegin_answers, ownSwapDone_answers,
    ownSetDrift_answers, fun _ _ => .inl rfl, ownClearDrift_answers, ownSetTrip_answers, ownTrip_answers,
    ownReadTrip_answers, ownClearTrip_answers, List.forall_mem_nil _⟩

/-- What every owner does with a payload. -/
theorem ownerOf_answers {op : Byte} {own : List Byte → State → State × Reply} (h : ownerOf op = some own)
    (p : List Byte) (s : State) : Answers op s (own p s) := by
  obtain ⟨before, after, split, -⟩ := List.lookup_eq_some_iff.mp h
  have mem : (op.toNat, own) ∈ owners := by rw [split]; simp
  simpa only [BitVec.ofNat_toNat, BitVec.setWidth_eq] using owners_answer _ mem p s

/-! ## Requests and transactions -/

section
variable {c : Instr}

theorem answer_changes (s : State) (op : Byte) (r : Reply) : Changes c s (s.answer op r) :=
  (Change.link s _ (.answer s.svl ⟨op, r.status, r.payload⟩)).one

theorem request_changes {op : Byte} {own : List Byte → State → State × Reply} (asked : asks op c = true)
    (owner : ownerOf op = some own) (b : Body) (s : State) : Changes c s (request op b own s) := by
  rcases request_cases op b own s with ⟨-, out⟩ | ⟨-, -, out⟩ | ⟨-, -, out⟩ <;> rw [out]
  · exact answer_changes s op _
  · refine .trans ?_ (answer_changes _ op _)
    rcases ownerOf_answers owner (b.bytes.take b.len.toNat) s with same | ⟨-, move⟩
    · exact Changes.of_eq same
    · exact (Change.owner s _ op asked move).one

/-- A request's own command is the arrival at its owner; TRIP is followed by the expiry that its action may bring about. -/
theorem exec_of_requestOf {op : Byte} {b : Body} (h : requestOf c = some (op, b)) :
    ∃ own, ownerOf op = some own ∧ ∀ s, exec c s =
      .next (if op = 0x61 then settleTimers s (request op b own s) else request op b own s) := by
  cases c <;> cases h <;> exact ⟨_, rfl, fun _ => rfl⟩

theorem asks_of_requestOf {op : Byte} {b : Body} (h : requestOf c = some (op, b)) : asks op c = true := by
  simp only [asks, h, beq_self_eq_true]

theorem serveBytes_changes {bytes : List Byte} (asked : ∀ op rest, bytes = op :: rest → asks op c = true) (s : State) :
    Changes c s (serveBytes bytes s) := by
  rcases bytes with _ | ⟨op, rest⟩
  · exact .refl
  rcases serveBytes_cases op rest s with ⟨-, out⟩ | ⟨-, -, out⟩ | ⟨-, -, -, out⟩ | ⟨own, b, -, owner, -, out⟩ <;> rw [out]
  · exact answer_changes s op _
  · exact answer_changes s op _
  · exact settleTimers_changes (request_changes (asked op rest rfl) owner b s)

theorem transactionEnd_changes {bits : List Bool} {clocked : Nat} (s : State) :
    Changes (.transactionEnd bits clocked) s (transactionEnd bits clocked s) := by
  unfold transactionEnd
  split
  · exact .refl
  split
  · exact (Change.link s _ (.rise s.svl)).one
  split
  · exact .refl
  next out _ =>
    refine .tail ?_ (.link _ _ (.ended _ out clocked))
    split
    · exact .refl
    · exact serveBytes_changes (fun op rest bytes => by simp [asks, requestOf, bytes]) s

theorem transactionStart_changes (s : State) : Changes c s (transactionStart s) := by
  unfold transactionStart
  split
  · exact .refl
  next free =>
    simp only [Bool.or_eq_true, not_or, Bool.not_eq_true] at free
    exact (Change.link s _ (.start s.svl free.1.2)).one

theorem nopRequest_changes (s : State) : Changes c s (nopRequest s) := by
  unfold nopRequest
  split
  · split
    next inside => exact (Change.link s _ (.nopTaken s.svl inside)).one
    next => exact (Change.link s _ (.nopPending s.svl)).one
  · exact .refl

end

/-! ## Commands and steps -/

/-- What a command does: a reset, a release, a pin change; nothing while a reset is held; and else single changes. -/
inductive Happens (c : Instr) (s : State) : State → Prop
  | reset (por record count) (reset : isReset c = true) : Happens c s (resetBlocks por record count s)
  | release (pins) (held : s.ttp.held = true) : Happens c s (releaseReset pins s)
  | releaseTrip (pins) (held : s.ttp.held = true) : Happens c s (tripTrigger (releaseReset pins s) .safe)
  | pin (high) : Happens c s { s with ttp := { s.ttp with gpolPin := high } }
  | unheard (held : s.ttp.held = true) : Happens c s s
  | heard {t} (running : s.ttp.held = false) (changes : Changes c s t) : Happens c s t

theorem takesRequest_of_held {s : State} (held : s.ttp.held = true) : takesRequest s = false := by
  simp [takesRequest, held]

theorem request_of_not_taken {s : State} (h : takesRequest s = false) (op : Byte) (b : Body)
    (own : List Byte → State → State × Reply) : request op b own s = s := by
  simp [request, h]

theorem settleTimers_self (s : State) : settleTimers s s = s := settleTimers_of_unmoved fun _ => rfl

section
variable {c : Instr} {s : State}

theorem happens_whileRunning {f : State → State} (changes : Changes c s (f s)) : Happens c s (whileRunning s f) := by
  unfold whileRunning
  split
  next held => exact .unheard held
  next running => exact .heard (Bool.eq_false_iff.mpr running) changes

theorem happens_of_held {t : State} (still : s.ttp.held = true → t = s) (changes : Changes c s t) : Happens c s t := by
  cases held : s.ttp.held with
  | true => rw [still held]; exact .unheard held
  | false => exact .heard held changes

theorem happens_of_requestOf {op : Byte} {b : Body} (h : requestOf c = some (op, b)) :
    ∃ t, exec c s = .next t ∧ Happens c s t := by
  obtain ⟨own, owner, out⟩ := exec_of_requestOf h
  have changes := request_changes (asks_of_requestOf h) owner b s
  refine ⟨_, out s, ?_⟩
  split
  · refine happens_of_held (fun held => ?_) (settleTimers_changes changes)
    rw [request_of_not_taken (takesRequest_of_held held), settleTimers_self]
  · exact happens_of_held (fun held => request_of_not_taken (takesRequest_of_held held) op b own) changes

/-- Every command ends in a next state, which it reaches in one of these ways. -/
theorem exec_happens (c : Instr) (s : State) : ∃ t, exec c s = .next t ∧ Happens c s t := by
  rcases request : requestOf c with _ | ⟨op, b⟩
  swap
  · exact happens_of_requestOf request
  cases c <;> simp only [requestOf, reduceCtorEq] at request <;> refine ⟨_, rfl, ?_⟩
  case indexArrival => exact happens_whileRunning (indexEvent_changes rfl _ _ _ _ s)
  case periodWrap =>
    refine happens_whileRunning ?_
    split
    · exact indexEvent_changes rfl _ _ _ _ s
    · exact .refl
  case loadArrival => exact happens_whileRunning (loadEvent_changes rfl _ s)
  case overdueEpisodeStart =>
    refine happens_whileRunning ?_
    split
    · exact loadEvent_changes rfl _ s
    · exact .refl
  case safeActive =>
    refine happens_whileRunning (settleTimers_changes ?_)
    unfold safeOn
    split
    · exact .refl
    · exact (Change.levels s { s.ttp with safeActive := true } rfl).one.tail (.trip _ _)
  case actionComplete => exact happens_whileRunning (Change.complete s).one
  case drainComplete b => exact happens_whileRunning (Change.drain s b).one
  case bankReturnsToStandby k => exact happens_whileRunning (Change.bankReturn s k).one
  case frameArrival id frame => exact happens_whileRunning (Changes.foldl (takeByte_changes id) _ s)
  case triggerFrameSent id =>
    refine happens_whileRunning (Change.listen s id _ ?_).one
    unfold MeterPort.frameSent
    split <;> exact ⟨rfl, rfl, rfl, rfl, rfl, rfl, rfl⟩
  case meterTimeout id =>
    refine happens_whileRunning (settleTimers_changes ?_)
    unfold expireDue
    split
    · exact meterFault_changes s id
    · exact .refl
  case gatePulseExpiry l => exact happens_whileRunning (expirePulse_changes s l)
  case powerOnReset => exact .reset _ _ _ rfl
  case nreset => exact .reset _ _ _ rfl
  case resetRelease pins =>
    split
    next held =>
      split
      · exact .releaseTrip pins held
      · exact .release pins held
    next running => exact .heard (Bool.eq_false_iff.mpr running) .refl
  case transactionStart =>
    exact happens_of_held (fun held => by simp [transactionStart, held]) (transactionStart_changes s)
  case transactionEnd bits clocked =>
    exact happens_of_held (fun held => by simp [transactionEnd, held]) (transactionEnd_changes s)
  case unknownOpcode op b =>
    refine happens_of_held (fun held => by rw [takesRequest_of_held held]; rfl) ?_
    split
    · exact answer_changes s op _
    · exact .refl
  case nop =>
    exact happens_of_held (fun held => by simp [nopRequest, takesRequest_of_held held]) (nopRequest_changes s)
  case safeInactive => exact happens_whileRunning (Change.levels s { s.ttp with safeActive := false } rfl).one
  case meterByteReceived id levels => exact happens_whileRunning (takeByte_changes id s _)
  case gpolPinChange high => exact .pin high

theorem happens_of_exec {t : State} (h : exec c s = .next t) : Happens c s t := by
  obtain ⟨u, out, happens⟩ := exec_happens c s
  rw [out] at h
  cases h
  exact happens

end

end Sys2Proof.Machine
end

section
/-! PROOF. What the proofs of the laws share: a step is made of single changes (`step_keeps`), a trip action of strikes
(`tripTrigger_keeps`), what the laws look at in a record is its face, and what one record's change makes of a count of
records. -/

namespace Sys2Proof.Machine

/-! ## What a step keeps -/

theorem State.modPort_frame (s : State) (i : PortId) (f : MeterPort → MeterPort) :
    s.modPort i f = { s with portA := (s.modPort i f).portA, portB := (s.modPort i f).portB } := by cases i <;> rfl

theorem State.modBank_frame (s : State) (k : BankId) (f : Bank → Bank) :
    s.modBank k f = { s with bankA := (s.modBank k f).bankA, bankB := (s.modBank k f).bankB } := by cases k <;> rfl

theorem foldl_agePulse_frame (ls : List Line) (s : State) :
    ls.foldl agePulse s = { s with gates := (ls.foldl agePulse s).gates } := by
  induction ls generalizing s with
  | nil => rfl
  | cons l ls ih => rw [List.foldl_cons, ih]; rfl

/-- What 0.1 ms writes: the entries' ages, the pulses and the model's own count. -/
theorem passTime_eq (s : State) :
    passTime s =
      { s with
        portA := s.portA.aged, portB := s.portB.aged
        gates := ((List.finRange 16).foldl agePulse { s with portA := s.portA.aged, portB := s.portB.aged }).gates
        ticks := s.ticks + 1 } := by
  have aged : (s.modPort .a MeterPort.aged).modPort .b MeterPort.aged =
      { s with portA := s.portA.aged, portB := s.portB.aged } := rfl
  simp only [passTime, aged]
  rw [foldl_agePulse_frame]

theorem passTime_pulse (s : State) (l : Line) : (passTime s).pulse l = (s.pulse l).map Pulse.aged := by
  have aged (ls : List Line) (once : ls.Nodup) (t : State) :
      (ls.foldl agePulse t).pulse l = if l ∈ ls then (t.pulse l).map Pulse.aged else t.pulse l := by
    induction ls generalizing t with
    | nil => rfl
    | cons x ls ih =>
      obtain ⟨fresh, once⟩ := List.nodup_cons.mp once
      rw [List.foldl_cons, ih once]
      by_cases same : x = l
      · subst same; simp [fresh, agePulse]
      · simp only [agePulse, State.pulse_setPulse_ne _ same, List.mem_cons, Ne.symm same, false_or]
  have all := aged (List.finRange 16) (List.nodup_finRange 16) { s with portA := s.portA.aged, portB := s.portB.aged }
  rw [if_pos (List.mem_finRange l)] at all
  rw [passTime_eq]
  generalize List.finRange 16 = ls at all ⊢
  exact all

theorem step_of_pending {s : State} {c : Instr} {rest : List Instr} (h : s.pending = c :: rest) :
    step s = exec c { s with pending := rest } := by
  simp only [step, h]

theorem step_of_idle {s : State} (h : s.pending = []) : step s = .next (tick s) := by
  simp only [step, h]

/-- An idle tick is made of expiries and the passing of 0.1 ms. -/
theorem tick_keeps {P : State → Prop} (change : ∀ c a b, Change c a b → P a → P b) (time : ∀ a, P a → P (passTime a))
    {s : State} (hs : P s) : P (tick s) := by
  unfold tick whileRunning
  split
  · exact hs
  · have expired : Changes .actionComplete s ((List.finRange 16).foldl expirePulse (expireMeters s)) :=
      (expireWhere_changes _ s).trans (Changes.foldl expirePulse_changes _ _)
    exact time _ (expired.keeps (change _) hs)

/-- What every single change, every reset, the release and the passing of time keep, every step keeps. -/
theorem step_keeps {P : State → Prop} (change : ∀ c a b, Change c a b → P a → P b)
    (queue : ∀ a rest, P a → P { a with pending := rest }) (time : ∀ a, P a → P (passTime a))
    (reset : ∀ por record count a, P a → P (resetBlocks por record count a))
    {s t : State} (release : s.ttp.held = true → ∀ pins rest, P (releaseReset pins { s with pending := rest }))
    (h : step s = .next t) (hs : P s) : P t := by
  rcases pending : s.pending with _ | ⟨c, rest⟩
  · rw [step_of_idle pending] at h
    cases h
    exact tick_keeps change time hs
  · rw [step_of_pending pending] at h
    have ready := queue s rest hs
    cases happens_of_exec h with
    | reset por record count => exact reset por record count _ ready
    | release pins held => exact release held pins rest
    | releaseTrip pins held => exact change .actionComplete _ _ (.trip _ .safe) (release held pins rest)
    | pin high => exact change .actionComplete _ _ (.levels _ _ rfl) ready
    | unheard => exact ready
    | heard _ changes => exact changes.keeps (change c) ready

/-! ## Strikes: one record voided or marked, with its hand-off (R7, R8) -/

/-- What a strike makes of a record. -/
structure Part.Struck (r w : Part) : Prop extends r.Same w where
  retests : w.retests = r.retests
  gone : w.state = .void ∨ w.state = .recirc

/-- One record voided or marked for recirculation, by the hand-off of its state. -/
inductive Strike : State → State → Prop
  | binned (s p r w b) (h : s.record p = some r) (graded : r.state = .graded (.bin b)) (struck : r.Struck w) :
      Strike s ((release s b).setRecord p (some w))
  | held (s p r w) (h : s.record p = some r) (held : r.state = .held) (struck : r.Struck w) :
      Strike s ((dropHold s p).setRecord p (some w))
  | measured (s p r w) (h : s.record p = some r) (measuring : r.state = .measuring) (struck : r.Struck w) :
      Strike s ({ s with portA := s.portA.lose p, portB := s.portB.lose p }.setRecord p (some w))
  | plain (s p r w) (h : s.record p = some r) (measuring : r.state ≠ .measuring) (held : r.state ≠ .held)
      (graded : ∀ b, r.state ≠ .graded (.bin b)) (struck : r.Struck w) : Strike s (s.setRecord p (some w))

/-- The strike of a pocket is its hand-off and then its new record. -/
theorem strike_of_handOff {s : State} {p : PocketNo} {r : Part} (h : s.record p = some r) {f : Part → Part}
    (struck : ∀ w : Part, w.Struck (f w)) : Strike s ((handOff s p r.state).modPart p f) := by
  have kept {u : State} (track : u.ptk = s.ptk) : u.modPart p f = u.setRecord p (some (f r)) :=
    modPart_of_some (by rw [State.record, track]; exact h) f
  rcases state : r.state with _ | (_ | b) | _ | _ | _ | _
  case measuring =>
    simp only [handOff]
    rw [loseEntries_of_some h, modPart_of_some (State.record_setRecord_same _ p _), State.setRecord_setRecord]
    obtain ⟨⟨serial, tag⟩, retests, gone⟩ := struck (r.withLost (s.portA.names p) (s.portB.names p))
    exact .measured s p r _ h state ⟨⟨serial, tag⟩, retests, gone⟩
  case graded.bin => simp only [handOff]; rw [kept (release_ptk s b)]; exact .binned s p r _ b h state (struck r)
  case held => simp only [handOff]; rw [kept (u := dropHold s p) rfl]; exact .held s p r _ h state (struck r)
  all_goals
    simp only [handOff]
    rw [kept rfl]
    exact .plain s p r _ h (by simp [state]) (by simp [state]) (by simp [state]) (struck r)

abbrev Strikes : State → State → Prop := Relation.ReflTransGen Strike

theorem voidPocket_strikes (s : State) (p : PocketNo) : Strikes s (voidPocket s p) := by
  unfold voidPocket
  split
  · exact .refl
  next r h =>
    split
    · exact .refl
    · exact .single (strike_of_handOff h fun w => ⟨⟨rfl, rfl⟩, rfl, .inl rfl⟩)

theorem recircPocket_strikes (s : State) (p : PocketNo) : Strikes s (recircPocket s p) := by
  unfold recircPocket
  split
  · exact .refl
  next r h => exact .single (strike_of_handOff h fun w => ⟨⟨rfl, rfl⟩, rfl, .inr rfl⟩)

theorem tripPocket_strikes (a : TripAction) (s : State) (p : PocketNo) : Strikes s (tripPocket a s p) := by
  unfold tripPocket
  split
  · exact .refl
  split
  case h_9 => exact .refl
  case h_6 | h_7 | h_8 => exact recircPocket_strikes s p
  all_goals exact voidPocket_strikes s p

theorem tripAction_strikes (s : State) : Strikes s (tripAction s) :=
  List.foldlRecOn (ringPockets s) _ .refl fun t st p _ => st.trans (tripPocket_strikes _ t p)

theorem Strikes.keeps {P : State → Prop} (strike : ∀ a b, Strike a b → P a → P b) {s t : State} (h : Strikes s t)
    (hs : P s) : P t := by
  induction h with
  | refl => exact hs
  | tail _ last ih => exact strike _ _ last ih

/-- What a trip trigger's entry, its strikes and its flag keep, the trigger keeps. -/
theorem tripTrigger_keeps {P : State → Prop} (strike : ∀ a b, Strike a b → P a → P b)
    (flag : ∀ a complete, P a → P (a.modTrc fun t => { t with complete := complete })) {s : State} {c : Cause}
    (entry : P (tripEntry s c)) : P (tripTrigger s c) :=
  flag _ _ ((tripAction_strikes _).keeps strike entry)

/-! ## Faces: what the laws look at in a record -/

theorem State.record_modPart (s : State) (p q : PocketNo) (f : Part → Part) :
    (s.modPart p f).record q = if q = p then (s.record q).map f else s.record q := by
  rcases h : s.record p with _ | r
  · rw [modPart_of_none h]
    split
    next here => rw [here, h]; rfl
    next => rfl
  · rw [modPart_of_some h]
    split
    next here => rw [here, State.record_setRecord_same, h]; rfl
    next other => exact State.record_setRecord_ne s (Ne.symm other) _

/-- A record without its measurements. -/
def Part.face (r : Part) : Part := { r with contact := none, measure := none, verify := none, deviation := none }

def State.face (s : State) (p : PocketNo) : Option Part := (s.record p).map Part.face

theorem State.face_of_records {s t : State} (h : t.ptk.records = s.ptk.records) : t.face = s.face := by
  funext p; simp only [State.face, State.record, h]

theorem State.face_modPart (s : State) (p : PocketNo) {f : Part → Part} (same : ∀ r, (f r).face = r.face) :
    (s.modPart p f).face = s.face := by
  funext q
  rcases h : s.record p with _ | r
  · rw [modPart_of_none h]
  · rw [modPart_of_some h]
    by_cases e : p = q
    · subst e; simp only [State.face, State.record_setRecord_same, h, Option.map_some, same]
    · simp only [State.face, State.record_setRecord_ne s e]

theorem Part.setResult_face (r : Part) (id : PortId) (x : StationResult) : (r.setResult id x).face = r.face := by
  cases id <;> rfl

theorem writeLost_face (s : State) (id : PortId) (es : List Outstanding) : (writeLost s id es).face = s.face :=
  List.foldlRecOn es (motive := fun t => t.face = s.face) _ rfl fun t same e _ =>
    (State.face_modPart t e.pocket fun r => r.setResult_face id .lost).trans same

theorem faultPort_face (s : State) (id : PortId) : (faultPort s id).face = s.face := by
  have ports : (faultPort s id).ptk.records = (writeLost s id (s.port id).entries).ptk.records := by
    simp only [faultPort, State.raise_ptk, State.modPort_ptk]
  exact (State.face_of_records ports).trans (writeLost_face s id _)

theorem matchFrame_face (s : State) (id : PortId) (f : ResultFrame) : (matchFrame s id f).face = s.face := by
  unfold matchFrame
  dsimp only
  split
  · exact State.face_of_records (by simp only [State.modMeterCounts, State.modPort_ptk])
  next e _ _ =>
    have older := writeLost_face s id ((s.port id).entries.takeWhile fun e => e.seq != f.seq)
    refine (State.face_modPart _ e.pocket fun r => r.setResult_face id _).trans (.trans ?_ older)
    exact State.face_of_records (by rw [State.modPort_ptk])

/-- What a taken answer writes: its port's list and the results of the records (R50 to R53). -/
theorem matchFrame_frame (s : State) (id : PortId) (f : ResultFrame) :
    matchFrame s id f =
      { s with
        ptk := { s.ptk with records := (matchFrame s id f).ptk.records }
        portA := (matchFrame s id f).portA, portB := (matchFrame s id f).portB } := by
  unfold matchFrame
  dsimp only
  split
  · cases id <;> rfl
  · rw [modPart_frame, State.modPort_frame, writeLost_frame]

theorem contactVerdict_face (contact convalid : Bool) (s : State) : (contactVerdict contact convalid s).face = s.face := by
  unfold contactVerdict
  split
  · exact State.face_modPart s _ fun r => by split <;> rfl
  · rfl

/-- What an arrival's own part writes. -/
theorem arrive_frame (home contact convalid : Bool) (s : State) :
    arrive home contact convalid s =
      { s with
        ptk := { s.ptk with
          records := (contactVerdict contact convalid s).ptk.records
          loadPointer := (arrive home contact convalid s).ptk.loadPointer
          indexCount := s.ptk.indexCount + 1 }
        ttp := { s.ttp with indexLevel := true } } := by
  have verdict : contactVerdict contact convalid s =
      { s with ptk := { s.ptk with records := (contactVerdict contact convalid s).ptk.records } } := by
    unfold contactVerdict
    split
    · exact modPart_frame s _ _
    · rfl
  unfold arrive
  dsimp only
  rw [verdict]
  cases home <;> rfl

theorem arrive_face (home contact convalid : Bool) (s : State) : (arrive home contact convalid s).face = s.face := by
  refine Eq.trans (State.face_of_records ?_) (contactVerdict_face contact convalid s)
  rw [arrive_frame]

theorem isHeld_eq_face (s : State) (p : PocketNo) : isHeld s p = (s.face p).any fun r => r.state == .held := by
  rw [State.face, Option.any_map]; rfl

theorem HoldEntry.agrees_eq_face (s : State) (e : HoldEntry) : e.agrees s = (s.face e.pocket).any fun r =>
    r.state == .held && r.serial == e.serial && r.grade == .byClass e.cls := by
  rw [State.face, Option.any_map]; rfl

theorem isMeasuring_eq_face (s : State) (p : PocketNo) :
    isMeasuring s p = (s.face p).any fun r => r.state == .measuring := by
  rw [State.face, Option.any_map]; rfl

theorem State.record_eq_none_iff_face (s : State) (p : PocketNo) : s.record p = none ↔ s.face p = none := by
  rw [State.face, Option.map_eq_none_iff]

/-! ## Counts of records -/

/-- How many pockets hold a record that passes a test. -/
def State.tally (s : State) (test : Part → Bool) : Nat := (allPockets.filter fun p => (s.record p).any test).length

theorem gradedFor_length (s : State) (b : SortBin) :
    (gradedFor s b).length = s.tally fun r => r.state == .graded (.bin b) := rfl

theorem taggedWith_length (s : State) (k : BankId) : (taggedWith s k).length = s.tally fun r => r.tag == some k := rfl

theorem occupiedCount_eq_tally (s : State) : occupiedCount s = s.tally fun _ => true := by
  simp only [occupiedCount, State.tally, Option.any_true]

theorem State.tally_of_records {s t : State} (h : t.ptk.records = s.ptk.records) (test : Part → Bool) :
    t.tally test = s.tally test := by
  simp only [State.tally, State.record, h]

theorem State.tally_of_face {s t : State} (h : t.face = s.face) {test : Part → Bool}
    (blind : ∀ r : Part, test r.face = test r) : t.tally test = s.tally test := by
  have by_face (u : State) : u.tally test = (allPockets.filter fun p => (u.face p).any test).length := by
    simp only [State.tally, State.face, Option.any_map, blind]
  rw [by_face, by_face, h]

/-- Two tests that agree but at one element of a list without repetition. -/
theorem length_filter_of_agree {α : Type} {l : List α} (once : l.Nodup) {a : α} (mem : a ∈ l) {f g : α → Bool}
    (agree : ∀ x, x ≠ a → f x = g x) :
    (l.filter f).length + (g a).toNat = (l.filter g).length + (f a).toNat := by
  induction l with
  | nil => cases mem
  | cons x l ih =>
    obtain ⟨fresh, once⟩ := List.nodup_cons.mp once
    by_cases same : x = a
    · subst same
      have rest : l.filter f = l.filter g :=
        List.filter_congr fun y inside => agree y fun e => fresh (by rwa [← e])
      cases hf : f x <;> cases hg : g x <;> simp [hf, hg, rest]
    · have step := ih once (List.mem_of_ne_of_mem (Ne.symm same) mem)
      cases hg : g x <;> simp [agree x same, hg] <;> omega

/-- A pocket's new record is counted for its old one. -/
theorem State.tally_setRecord (s : State) (p : PocketNo) (r : Option Part) (test : Part → Bool) :
    (s.setRecord p r).tally test + ((s.record p).any test).toNat = s.tally test + (r.any test).toNat := by
  have counted := length_filter_of_agree (List.nodup_finRange 32) (List.mem_finRange p)
    (f := fun q => ((s.setRecord p r).record q).any test) (g := fun q => (s.record q).any test)
    fun q ne => by rw [State.record_setRecord_ne s ne.symm]
  rwa [State.record_setRecord_same] at counted

/-- A record of the same standing leaves the count. -/
theorem State.tally_setRecord_same {s : State} {p : PocketNo} {r w : Part} (h : s.record p = some r) {test : Part → Bool}
    (same : test w = test r) : (s.setRecord p (some w)).tally test = s.tally test := by
  have counted := s.tally_setRecord p (some w) test
  rw [h, Option.any_some, Option.any_some, same] at counted
  exact Nat.add_right_cancel counted

/-- An occupied pocket that passes the test is counted. -/
theorem State.tally_pos {s : State} {p : PocketNo} {r : Part} (h : s.record p = some r) {test : Part → Bool}
    (passes : test r = true) : 0 < s.tally test := by
  refine List.length_pos_of_mem (a := p) (List.mem_filter.mpr ⟨List.mem_finRange p, ?_⟩)
  rw [h]; exact passes

/-! ## Emptying, fires and CLEAR_TRACK -/

theorem clearedReport_frame (s : State) (tag : Option BankId) :
    clearedReport s tag = { s with bankA := (clearedReport s tag).bankA, bankB := (clearedReport s tag).bankB } := by
  unfold clearedReport
  rcases tag with _ | (_ | _) <;> rfl

/-- The release that CLEAR_TRACK makes for a record (R24). -/
def clearRelease (s : State) : PartState → State
  | .graded (.bin b) => release s b
  | _ => s

theorem clearRelease_frame (s : State) (st : PartState) :
    clearRelease s st =
      { s with bins := (clearRelease s st).bins, svl := { s.svl with attention := (clearRelease s st).svl.attention } } := by
  unfold clearRelease
  split
  · exact release_frame s _
  · rfl

theorem clearPocket_of_some {s : State} {p : PocketNo} {r : Part} (h : s.record p = some r) :
    clearPocket s p = emptyPocket (clearRelease (clearedReport s r.tag) r.state) p := by
  simp only [clearPocket, h, clearRelease] <;> rfl

theorem clearPocket_of_none {s : State} {p : PocketNo} (h : s.record p = none) : clearPocket s p = s := by
  simp only [clearPocket, h]

/-- What CLEAR_TRACK may write for one pocket. -/
theorem clearPocket_frame (s : State) (p : PocketNo) :
    clearPocket s p =
      { s with
        ptk := { s.ptk with records := (clearPocket s p).ptk.records }
        bankA := (clearPocket s p).bankA, bankB := (clearPocket s p).bankB, bins := (clearPocket s p).bins
        trc := { s.trc with complete := (clearPocket s p).trc.complete }
        svl := { s.svl with attention := (clearPocket s p).svl.attention } } := by
  rcases h : s.record p with _ | r
  · rw [clearPocket_of_none h]
  · rw [clearPocket_of_some h, emptyPocket_frame, clearRelease_frame, clearedReport_frame]

theorem clearPocket_record_self (s : State) (p : PocketNo) : (clearPocket s p).record p = none := by
  rcases h : s.record p with _ | r
  · rw [clearPocket_of_none h, h]
  · rw [clearPocket_of_some h]; exact emptyPocket_record_self _ p

theorem clearPocket_record_ne (s : State) {p q : PocketNo} (ne : q ≠ p) : (clearPocket s p).record q = s.record q := by
  rcases h : s.record p with _ | r
  · rw [clearPocket_of_none h]
  · rw [clearPocket_of_some h, emptyPocket_record_ne _ ne, clearRelease_frame, clearedReport_frame]; rfl

theorem foldl_clearPocket_frame (ps : List PocketNo) (s : State) :
    ps.foldl clearPocket s =
      { s with
        ptk := { s.ptk with records := (ps.foldl clearPocket s).ptk.records }
        bankA := (ps.foldl clearPocket s).bankA, bankB := (ps.foldl clearPocket s).bankB
        bins := (ps.foldl clearPocket s).bins
        trc := { s.trc with complete := (ps.foldl clearPocket s).trc.complete }
        svl := { s.svl with attention := (ps.foldl clearPocket s).svl.attention } } := by
  induction ps generalizing s with
  | nil => rfl
  | cons p ps ih => rw [List.foldl_cons, ih]; rw [clearPocket_frame s p]

theorem foldl_clearPocket_record (ps : List PocketNo) (s : State) (q : PocketNo) :
    (ps.foldl clearPocket s).record q = if q ∈ ps then none else s.record q := by
  induction ps generalizing s with
  | nil => rfl
  | cons p ps ih =>
    rw [List.foldl_cons, ih]
    by_cases same : q = p
    · subst same; simp [clearPocket_record_self]
    · simp [same, clearPocket_record_ne s same]

/-- What CLEAR_TRACK leaves and what it may write (R24, R54). -/
theorem clearTrack_frame (s : State) :
    clearTrack s =
      { s with
        ptk := { s.ptk with records := (clearTrack s).ptk.records }
        portA := s.portA.dropAll, portB := s.portB.dropAll
        bankA := (clearTrack s).bankA, bankB := (clearTrack s).bankB, bins := (clearTrack s).bins
        trc := { s.trc with complete := (clearTrack s).trc.complete }
        svl := { s.svl with attention := (clearTrack s).svl.attention, hold := [] } } := by
  unfold clearTrack
  dsimp only
  rw [foldl_clearPocket_frame]
  rfl

theorem clearTrack_record (s : State) (q : PocketNo) :
    (clearTrack s).record q = if q.val < s.ptk.ring.pockets then none else s.record q := by
  have fold : (clearTrack s).record q = ((ringPockets s).foldl clearPocket s).record q := rfl
  rw [fold, foldl_clearPocket_record]
  simp only [mem_ringPockets]

/-- What clearing the pockets, and then taking the lists away, keep, CLEAR_TRACK keeps. -/
theorem clearTrack_keeps {P : State → Prop} (pocket : ∀ a p, P a → P (clearPocket a p))
    (lists : ∀ a, P a → P (((a.modPort .a MeterPort.dropAll).modPort .b MeterPort.dropAll).setHold [])) {s : State}
    (hs : P s) : P (clearTrack s) :=
  lists _ (List.foldlRecOn (ringPockets s) _ hs fun t ht p _ => pocket t p ht)

theorem sweepOut_of_some {s : State} {p : PocketNo} {r : Part} (h : s.record p = some r) :
    sweepOut s p = emptyPocket (exitReport (startPulse s 0) r 0) p := by
  simp only [sweepOut, h]

/-- What a fire may write (R128). -/
theorem firePocket_frame (s : State) (p : PocketNo) (r : Part) (b : SortBin) :
    firePocket s p r b =
      { s with
        ptk := { s.ptk with records := (firePocket s p r b).ptk.records }
        bankA := (firePocket s p r b).bankA, bankB := (firePocket s p r b).bankB, bins := (firePocket s p r b).bins
        gates := (firePocket s p r b).gates, trc := { s.trc with complete := (firePocket s p r b).trc.complete }
        svl := { s.svl with attention := (firePocket s p r b).svl.attention } } := by
  unfold firePocket
  rw [emptyPocket_frame, exitReport_frame, fireReport_frame, startPulse_frame]

/-- What GATE0's fire may write (R130). -/
theorem sweepOut_frame (s : State) (p : PocketNo) :
    sweepOut s p =
      { s with
        ptk := { s.ptk with records := (sweepOut s p).ptk.records }
        bankA := (sweepOut s p).bankA, bankB := (sweepOut s p).bankB, bins := (sweepOut s p).bins
        gates := (sweepOut s p).gates, trc := { s.trc with complete := (sweepOut s p).trc.complete }
        svl := { s.svl with attention := (sweepOut s p).svl.attention } } := by
  rcases h : s.record p with _ | r
  · simp only [sweepOut, h]
  · rw [sweepOut_of_some h, emptyPocket_frame, exitReport_frame, startPulse_frame]

theorem firePocket_record (s : State) (p : PocketNo) (r : Part) (b : SortBin) (q : PocketNo) :
    (firePocket s p r b).record q = if q = p then none else s.record q := by
  unfold firePocket
  split
  next same => subst same; exact emptyPocket_record_self _ q
  next ne => rw [emptyPocket_record_ne _ ne, exitReport_frame, fireReport_frame, startPulse_frame]; rfl

theorem sweepOut_record (s : State) (p q : PocketNo) :
    (sweepOut s p).record q = if q = p then none else s.record q := by
  rcases h : s.record p with _ | r
  · rw [show sweepOut s p = s by simp only [sweepOut, h]]
    split
    next same => rw [same, h]
    next => rfl
  · rw [sweepOut_of_some h]
    split
    next same => subst same; exact emptyPocket_record_self _ q
    next ne => rw [emptyPocket_record_ne _ ne, exitReport_frame, startPulse_frame]; rfl

theorem createRecord_frame (s : State) (p : PocketNo) (st : PartState) (tag : Option BankId) (refsel : Bool) :
    createRecord s p st tag refsel =
      { s with
        ptk := { s.ptk with
          records := s.ptk.records.set p (some (newPart s st tag refsel)) p.isLt
          serial := s.ptk.serial + 1
          untracked := (createRecord s p st tag refsel).ptk.untracked }
        bankA := (createRecord s p st tag refsel).bankA, bankB := (createRecord s p st tag refsel).bankB } := by
  unfold createRecord loadReport
  dsimp only
  rcases tag with _ | (_ | _) <;> rfl

theorem createRecord_record (s : State) (p : PocketNo) (st : PartState) (tag : Option BankId) (refsel : Bool) (q : PocketNo) :
    (createRecord s p st tag refsel).record q = if q = p then some (newPart s st tag refsel) else s.record q := by
  rw [createRecord_frame]
  split
  next same => subst same; exact State.record_setRecord_same s q _
  next ne => exact State.record_setRecord_ne s (Ne.symm ne) _

theorem bankReturn_frame (s : State) (k : BankId) :
    bankReturn s k =
      { s with
        bankA := (bankReturn s k).bankA, bankB := (bankReturn s k).bankB
        svl := { s.svl with attention := (bankReturn s k).svl.attention } } := by
  unfold bankReturn
  split
  · rw [State.modBank_frame]; rfl
  · rfl

theorem productLoad_frame (s : State) :
    productLoad s = { s with drm := (productLoad s).drm, svl := { s.svl with attention := (productLoad s).svl.attention } } := by
  unfold productLoad episodeTest
  split <;> rfl

theorem resizeBin_frame (s : State) (b : SortBin) (capacity margin : Nat) :
    resizeBin s b capacity margin =
      { s with
        bins := (resizeBin s b capacity margin).bins
        svl := { s.svl with attention := (resizeBin s b capacity margin).svl.attention } } := by
  unfold resizeBin
  dsimp only
  split <;> rfl

theorem beginSwap_frame (s : State) (b : SortBin) :
    beginSwap s b =
      { s with bins := (beginSwap s b).bins, svl := { s.svl with attention := (beginSwap s b).svl.attention } } := by
  unfold beginSwap
  rw [drainTest_frame]
  rfl

theorem switchTo_frame (s : State) (k : BankId) :
    switchTo s k = { s with bankA := (switchTo s k).bankA, bankB := (switchTo s k).bankB } := by
  cases k <;> rfl

end Sys2Proof.Machine
end

section
/-! PROOF. The ring's law (R2 to R4, R22) is kept by every step. -/

namespace Sys2Proof.Machine

/-- A state with the same configuration and load pointer in which no EMPTY pocket is occupied. -/
theorem RingOk.of_kept {s t : State} (h : RingOk s) (ring : t.ptk.ring = s.ptk.ring)
    (pointer : t.ptk.loadPointer = s.ptk.loadPointer) (empty : ∀ p, s.record p = none → t.record p = none) : RingOk t := by
  obtain ⟨valid, below, beyond⟩ := h
  refine ⟨ring ▸ valid, by rwa [ring, pointer], fun p outside => empty p (beyond p ?_)⟩
  rwa [ring] at outside

theorem RingOk.of_face {s t : State} (h : RingOk s) (ring : t.ptk.ring = s.ptk.ring)
    (pointer : t.ptk.loadPointer = s.ptk.loadPointer) (face : t.face = s.face) : RingOk t :=
  h.of_kept ring pointer fun p none => by rwa [State.record_eq_none_iff_face, face, ← State.record_eq_none_iff_face]

theorem RingOk.setRecord {s : State} (h : RingOk s) {p : PocketNo} {r : Part} (occupied : s.record p = some r)
    (w : Option Part) : RingOk (s.setRecord p w) :=
  h.of_kept rfl rfl fun q none => by
    rwa [State.record_setRecord_ne s fun same => by rw [same, none] at occupied; cases occupied]

theorem RingOk.strike {s t : State} (move : Strike s t) (h : RingOk s) : RingOk t := by
  cases move with
  | binned p r w b record => exact RingOk.setRecord (s := release s b) (by rw [release_frame]; exact h) (by rw [release_frame]; exact record) _
  | held p r w record => exact RingOk.setRecord (s := dropHold s p) h record _
  | measured p r w record =>
    exact RingOk.setRecord (s := { s with portA := s.portA.lose p, portB := s.portB.lose p }) h record _
  | plain p r w record => exact h.setRecord record _

theorem RingOk.clearPocket {s : State} (h : RingOk s) (p : PocketNo) : RingOk (clearPocket s p) := by
  refine h.of_kept (by rw [clearPocket_frame]) (by rw [clearPocket_frame]) fun q none => ?_
  by_cases same : q = p
  · rw [same]; exact clearPocket_record_self s p
  · rwa [clearPocket_record_ne s same]

/-- The pocket at an offset is one of the ring (R3). -/
theorem RingOk.pocketAt_lt {s : State} (h : RingOk s) (k : Nat) : (pocketAt s k).val < s.ptk.ring.pockets := by
  obtain ⟨⟨twelve, thirtyTwo⟩, -⟩ := (Ring.valid_iff_meets _).mp h.1
  have below := Nat.mod_lt (s.ptk.loadPointer + s.ptk.ring.pockets - k) (show 0 < s.ptk.ring.pockets by omega)
  calc (pocketAt s k).val = (s.ptk.loadPointer + s.ptk.ring.pockets - k) % s.ptk.ring.pockets :=
        Nat.mod_eq_of_lt (by omega)
    _ < s.ptk.ring.pockets := below

theorem RingOk.createRecord {s : State} (h : RingOk s) {p : PocketNo} (inside : p.val < s.ptk.ring.pockets) (st : PartState)
    (tag : Option BankId) (refsel : Bool) : RingOk (createRecord s p st tag refsel) := by
  obtain ⟨valid, below, beyond⟩ := h
  rw [createRecord_frame]
  refine ⟨valid, below, fun q outside => ?_⟩
  have ne : p ≠ q := fun same => by subst same; exact Nat.not_lt.mpr outside inside
  exact (State.record_setRecord_ne s ne _).trans (beyond q outside)

theorem arrive_loadPointer (home contact convalid : Bool) (s : State) :
    (arrive home contact convalid s).ptk.loadPointer =
      if home then 0 else (s.ptk.loadPointer + 1) % s.ptk.ring.pockets := by
  have verdict : (contactVerdict contact convalid s).ptk.ring = s.ptk.ring ∧
      (contactVerdict contact convalid s).ptk.loadPointer = s.ptk.loadPointer := by
    unfold contactVerdict
    split
    · rw [modPart_frame]; exact ⟨rfl, rfl⟩
    · exact ⟨rfl, rfl⟩
  cases home with
  | true => rfl
  | false => simp only [arrive, homeCorrect, advanceRing, verdict, Bool.false_eq_true, if_false]

theorem RingOk.arrive {s : State} (h : RingOk s) (home contact convalid : Bool) : RingOk (arrive home contact convalid s) := by
  have ring : (Machine.arrive home contact convalid s).ptk.ring = s.ptk.ring := by rw [arrive_frame]
  obtain ⟨valid, below, beyond⟩ := h
  refine ⟨ring ▸ valid, ?_, fun p outside => ?_⟩
  · rw [ring, arrive_loadPointer]
    split
    · exact Nat.zero_lt_of_lt below
    · exact Nat.mod_lt _ (Nat.zero_lt_of_lt below)
  · rw [State.record_eq_none_iff_face, arrive_face, ← State.record_eq_none_iff_face]
    exact beyond p (ring ▸ outside)

theorem RingOk.setRing {s : State} (h : RingOk s) {r : Ring}
    (empty : ∀ p : PocketNo, p.val < s.ptk.ring.pockets → s.record p = none) (valid : r.valid = true) : RingOk (setRing s r) := by
  obtain ⟨-, -, beyond⟩ := h
  obtain ⟨⟨twelve, -⟩, -⟩ := (Ring.valid_iff_meets r).mp valid
  refine ⟨valid, ?_, fun p _ => ?_⟩
  · simp only [Machine.setRing]
    split
    · assumption
    · omega
  · rcases Nat.lt_or_ge p.val s.ptk.ring.pockets with inside | outside
    · exact empty p inside
    · exact beyond p outside

theorem RingOk.owner {op : Byte} {s t : State} (move : OwnerChange op s t) (h : RingOk s) : RingOk t := by
  cases move with
  | verdictSweep _ p r record => exact h.setRecord record _
  | verdictBin _ p r b o record =>
    exact RingOk.setRecord (s := grant s b) (by rw [grant_frame]; exact h) ((record_grant s b p).trans record) _
  | verdictRetest _ p r k record => exact h.setRecord record _
  | ring _ r empty valid => exact h.setRing empty valid
  | clearTrack => exact clearTrack_keeps (fun a p ha => ha.clearPocket p) (fun a ha => ha) h
  | trip => exact tripTrigger_keeps (fun a b => RingOk.strike) (fun _ _ ha => ha) h
  | timeout | restore => rw [State.modPort_frame]; exact h
  | write => rw [State.modBank_frame]; exact h
  | activateDraining => rw [switchTo_frame]; exact h
  | activateStandby => rw [switchTo_frame, State.modCounts, State.modBank_frame]; exact h
  | resizeBin => rw [resizeBin_frame]; exact h
  | swapBegin => rw [beginSwap_frame]; exact h
  | _ => exact h

theorem RingOk.change {c : Instr} {s t : State} (move : Change c s t) (h : RingOk s) : RingOk t := by
  have trip (u : State) (cause : Cause) (hu : RingOk u) : RingOk (tripTrigger u cause) :=
    tripTrigger_keeps (fun a b => RingOk.strike) (fun _ _ ha => ha) hu
  cases move with
  | void p => exact (voidPocket_strikes s p).keeps (fun a b => RingOk.strike) h
  | recirc p => exact (recircPocket_strikes s p).keeps (fun a b => RingOk.strike) h
  | trip cause => exact trip s cause h
  | fault id =>
    refine h.of_face ?_ ?_ (faultPort_face s id) <;>
      simp only [faultPort, State.raise_ptk, State.modPort_ptk] <;> rw [writeLost_frame]
  | endPulse l => rw [endPulse_frame]; exact h
  | drain b => rw [drainTest_frame]; exact h
  | fire p r b =>
    refine h.of_kept (by rw [firePocket_frame]) (by rw [firePocket_frame]) fun q empty => ?_
    rw [firePocket_record, empty, ite_self]
  | sweep p =>
    refine h.of_kept (by rw [sweepOut_frame]) (by rw [sweepOut_frame]) fun q empty => ?_
    rw [sweepOut_record, empty, ite_self]
  | sweepHeld p =>
    refine h.of_kept (by rw [sweepOut_frame]; rfl) (by rw [sweepOut_frame]; rfl) fun q empty => ?_
    rw [sweepOut_record, show (dropHold s p).record q = none from empty, ite_self]
  | expire => rw [expireEntry_frame]; exact h
  | classed | retestRev => rw [State.modCounts, State.modBank_frame]; exact h
  | gradeSweep p r w record | retest p r w k record | hold p r w cls record | pass p r record => exact h.setRecord record _
  | gradeBin p r w b o record =>
    exact RingOk.setRecord (s := grant s b) (by rw [grant_frame]; exact h) ((record_grant s b p).trans record) _
  | sample v =>
    rcases Nat.lt_or_ge s.drm.config.alarmLimit v.natAbs with beyond | within
    · rw [sampleArrival_of_beyond beyond]; exact trip _ _ h
    · rw [sampleArrival_of_within within]; exact h
  | trigger | listen => rw [State.modPort_frame]; exact h
  | skip id p =>
    exact h.of_face (by rw [modPart_frame]) (by rw [modPart_frame])
      (State.face_modPart s p fun r => r.setResult_face id .skipped)
  | answerTaken id f => exact h.of_face (by rw [matchFrame_frame]) (by rw [matchFrame_frame]) (matchFrame_face s id f)
  | arrive home contact convalid => exact h.arrive home contact convalid
  | create => exact h.createRecord (h.pocketAt_lt 0) _ _ _
  | productLoad => rw [productLoad_frame]; exact h
  | complete => rw [completionTest_frame]; exact h
  | bankReturn => rw [bankReturn_frame]; exact h
  | owner _ op _ owned => exact h.owner owned
  | _ => exact h

theorem RingOk.resetBlocks (por : Bool) (record : TripRecord) (count : Count16) (s : State) :
    RingOk (resetBlocks por record count s) := by
  refine ⟨by simp only [Machine.resetBlocks]; decide, by simp only [Machine.resetBlocks]; decide, fun p _ => ?_⟩
  simp [State.record, Machine.resetBlocks, Ptk.reset]

/-- Settles O52: a step is made of single changes, of which SET_RING and the arrivals set the configuration and the pointer,
and only a load occupies a pocket. -/
theorem ringLawIsKept : Obligations.RingLawIsKept := by
  unfold Obligations.RingLawIsKept
  intro s t h stepped
  refine step_keeps (P := RingOk) (fun c a b => RingOk.change) (fun a rest ha => ha) ?time ?reset ?release stepped h
  case time => intro a ha; rw [passTime_eq]; exact ha
  case reset => exact fun por record count a _ => .resetBlocks por record count a
  case release => exact fun _ pins rest => h

end Sys2Proof.Machine
end

section
/-! PROOF. The hold list's law (R178) is kept by every step: a HELD pocket enters and leaves the list with its state. -/

namespace Sys2Proof.Machine

theorem HoldOk.of_face {s t : State} (h : HoldOk s) (face : t.face = s.face) (hold : t.svl.hold = s.svl.hold) : HoldOk t := by
  obtain ⟨four, once, agree, all⟩ := h
  simp only [HoldOk, hold, HoldEntry.agrees_eq_face, isHeld_eq_face, face] at agree all ⊢
  exact ⟨four, once, agree, all⟩

/-- One pocket that is no longer HELD, off the list; the other records as they were. -/
theorem HoldOk.of_drop {s t : State} (h : HoldOk s) {p : PocketNo}
    (hold : t.svl.hold = s.svl.hold.filter fun e => e.pocket != p) (others : ∀ q, q ≠ p → t.face q = s.face q)
    (after : isHeld t p = false) : HoldOk t := by
  obtain ⟨four, once, agree, all⟩ := h
  have kept : t.svl.hold.Sublist s.svl.hold := hold ▸ List.filter_sublist
  refine ⟨kept.length_le.trans four, once.sublist (kept.map _), fun e mem => ?_, fun q held => ?_⟩
  · rw [hold, List.mem_filter, bne_iff_ne] at mem
    rw [HoldEntry.agrees_eq_face, others _ mem.2, ← HoldEntry.agrees_eq_face]
    exact agree e mem.1
  · have ne : q ≠ p := fun same => by rw [same, after] at held; cases held
    rw [isHeld_eq_face, others q ne, ← isHeld_eq_face] at held
    obtain ⟨e, mem, rfl⟩ := List.mem_map.mp (all q held)
    exact List.mem_map_of_mem (hold ▸ List.mem_filter.mpr ⟨mem, bne_iff_ne.mpr ne⟩)

theorem isHeld_of_agrees {s : State} {e : HoldEntry} (h : e.agrees s = true) : isHeld s e.pocket = true := by
  unfold HoldEntry.agrees at h
  unfold isHeld
  rcases record : s.record e.pocket with _ | r
  · rw [record] at h; cases h
  · rw [record, Option.any_some, Bool.and_assoc] at h
    exact Bool.and_elim_left h

/-- A pocket that is not HELD is not on the list. -/
theorem HoldOk.filter_of_not_held {s : State} (h : HoldOk s) {p : PocketNo} (before : isHeld s p = false) :
    s.svl.hold.filter (fun e => e.pocket != p) = s.svl.hold := by
  obtain ⟨-, -, agree, -⟩ := h
  refine List.filter_eq_self.mpr fun e mem => bne_iff_ne.mpr fun same => ?_
  rw [← same, isHeld_of_agrees (agree e mem)] at before
  cases before

/-- One pocket that was not and is not HELD; the other records as they were. -/
theorem HoldOk.of_one {s t : State} (h : HoldOk s) {p : PocketNo} (before : isHeld s p = false)
    (hold : t.svl.hold = s.svl.hold) (others : ∀ q, q ≠ p → t.face q = s.face q) (after : isHeld t p = false) : HoldOk t :=
  h.of_drop (hold.trans (h.filter_of_not_held before).symm) others after

section
variable {s : State} {p : PocketNo}

theorem State.face_setRecord_ne {q : PocketNo} (ne : q ≠ p) (x : Option Part) : (s.setRecord p x).face q = s.face q := by
  rw [State.face, State.record_setRecord_ne s ne.symm, State.face]

theorem not_held_of_some {r : Part} (h : s.record p = some r) (other : r.state ≠ .held) : isHeld s p = false := by
  rw [isHeld_of_some h, decide_eq_false other]

theorem not_held_setRecord {w : Part} (other : w.state ≠ .held) : isHeld (s.setRecord p (some w)) p = false :=
  not_held_of_some (State.record_setRecord_same s p _) other

theorem not_held_of_none (h : s.record p = none) : isHeld s p = false := by
  rw [isHeld, h]; rfl

end

/-- A record that was not HELD takes a state that is not HELD. -/
theorem HoldOk.setRecord {s : State} (h : HoldOk s) {p : PocketNo} {r w : Part} (record : s.record p = some r)
    (before : r.state ≠ .held) (after : w.state ≠ .held) : HoldOk (s.setRecord p (some w)) :=
  h.of_one (not_held_of_some record before) rfl (fun _ ne => State.face_setRecord_ne ne _) (not_held_setRecord after)

/-- A record leaves the list with its new state. -/
theorem HoldOk.dropHold {s : State} (h : HoldOk s) {p : PocketNo} {w : Part} (after : w.state ≠ .held) :
    HoldOk ((dropHold s p).setRecord p (some w)) :=
  h.of_drop rfl (fun _ ne => State.face_setRecord_ne ne _) (not_held_setRecord after)

theorem Part.Struck.not_held {r w : Part} (struck : r.Struck w) : w.state ≠ .held := by
  rcases struck.gone with void | recirc
  · rw [void]; decide
  · rw [recirc]; decide

theorem HoldOk.strike {s t : State} (move : Strike s t) (h : HoldOk s) : HoldOk t := by
  cases move with
  | binned p r w b record graded struck =>
    exact HoldOk.setRecord (s := release s b) (by rw [release_frame]; exact h) (by rw [release_frame]; exact record)
      (by rw [graded]; exact nofun) struck.not_held
  | held p r w record held struck => exact h.dropHold struck.not_held
  | measured p r w record measuring struck =>
    exact HoldOk.setRecord (s := { s with portA := s.portA.lose p, portB := s.portB.lose p }) h record
      (by rw [measuring]; decide) struck.not_held
  | plain p r w record _ before _ struck => exact h.setRecord record before struck.not_held

theorem HoldOk.tripTrigger {s : State} (h : HoldOk s) (c : Cause) : HoldOk (tripTrigger s c) :=
  tripTrigger_keeps (fun _ _ => HoldOk.strike) (fun _ _ ha => ha) h

/-- A HOLD action with room: the record and its entry agree (R102). -/
theorem HoldOk.holdPart {s : State} (h : HoldOk s) {p : PocketNo} {r w : Part} {cls : PartClass}
    (record : s.record p = some r) (before : r.state ≠ .held) (serial : w.serial = r.serial) (state : w.state = .held)
    (grade : w.grade = .byClass cls) (room : s.svl.hold.length < 4) :
    HoldOk ((s.setRecord p (some w)).setHold (s.svl.hold ++ [⟨p, r.serial, cls⟩])) := by
  have fresh : p ∉ s.svl.hold.map HoldEntry.pocket := fun mem => by
    obtain ⟨e, listed, rfl⟩ := List.mem_map.mp mem
    have gone := h.filter_of_not_held (not_held_of_some record before)
    rw [← gone] at listed
    exact absurd rfl (bne_iff_ne.mp (List.mem_filter.mp listed).2)
  obtain ⟨four, once, agree, all⟩ := h
  refine ⟨?room, ?once, ?agree, ?all⟩
  case room => simpa using room
  case once =>
    rw [State.setHold_svl_hold, List.map_append]
    exact List.nodup_append.mpr ⟨once, List.nodup_singleton _, fun a listed b new => by
      rw [List.map_singleton, List.mem_singleton] at new
      rintro rfl
      subst new
      exact fresh listed⟩
  case agree =>
    intro e mem
    rcases List.mem_append.mp mem with listed | new
    · have ne : e.pocket ≠ p := fun same => fresh (same ▸ List.mem_map_of_mem listed)
      have agrees := agree e listed
      unfold HoldEntry.agrees at agrees ⊢
      exact (State.record_setRecord_ne s ne.symm _).symm ▸ agrees
    · rw [List.mem_singleton.mp new]
      unfold HoldEntry.agrees
      have written : ((s.setRecord p (some w)).setHold (s.svl.hold ++ [⟨p, r.serial, cls⟩])).record p = some w :=
        State.record_setRecord_same s p _
      simp [written, state, serial, grade]
  case all =>
    intro q held
    rw [State.setHold_svl_hold, List.map_append, List.mem_append]
    by_cases same : q = p
    · exact .inr (by simp [same])
    · have other : (s.setRecord p (some w)).record q = s.record q := State.record_setRecord_ne s (Ne.symm same) _
      refine .inl (all q ?_)
      unfold isHeld at held ⊢
      exact other ▸ held

theorem HoldOk.clearTrack {s : State} (ring : RingOk s) : HoldOk (clearTrack s) := by
  have empty (q : PocketNo) : (Machine.clearTrack s).record q = none := by
    obtain ⟨-, -, beyond⟩ := ring
    rw [clearTrack_record]
    split
    · rfl
    · exact beyond q (by omega)
  have list : (Machine.clearTrack s).svl.hold = [] := by rw [clearTrack_frame]
  refine ⟨by simp [list], by simp [list], by simp [list], fun p held => ?_⟩
  rw [not_held_of_none (empty p)] at held
  cases held

theorem HoldOk.owner {op : Byte} {s t : State} (move : OwnerChange op s t) (ring : RingOk s) (h : HoldOk s) : HoldOk t := by
  cases move with
  | verdictSweep _ p r record => exact h.dropHold (by simp)
  | verdictBin _ p r b o record => exact HoldOk.dropHold (s := grant s b) (by rw [grant_frame]; exact h) (by simp)
  | verdictRetest _ p r k record => exact h.dropHold (by simp)
  | clearTrack => exact .clearTrack ring
  | trip => exact h.tripTrigger _
  | timeout | restore => rw [State.modPort_frame]; exact h
  | write => rw [State.modBank_frame]; exact h
  | activateDraining => rw [switchTo_frame]; exact h
  | activateStandby => rw [switchTo_frame, State.modCounts, State.modBank_frame]; exact h
  | resizeBin => rw [resizeBin_frame]; exact h
  | swapBegin => rw [beginSwap_frame]; exact h
  | _ => exact h

/-- What the link's own events make of the link leaves the hold list. -/
theorem LinkChange.hold {v w : Svl} (move : LinkChange v w) : w.hold = v.hold := by
  cases move with
  | answer r => unfold Svl.answer; split <;> rfl
  | _ => rfl

theorem HoldOk.change {c : Instr} {s t : State} (move : Change c s t) (ring : RingOk s) (h : HoldOk s) : HoldOk t := by
  cases move with
  | void p => exact (voidPocket_strikes s p).keeps (fun _ _ => HoldOk.strike) h
  | recirc p => exact (recircPocket_strikes s p).keeps (fun _ _ => HoldOk.strike) h
  | trip cause => exact h.tripTrigger cause
  | fault id =>
    refine h.of_face (faultPort_face s id) ?_
    rw [faultPort, State.modPort_frame, writeLost_frame]; rfl
  | endPulse l => rw [endPulse_frame]; exact h
  | drain b => rw [drainTest_frame]; exact h
  | fire p r b record graded =>
    refine h.of_one (not_held_of_some record (by rw [graded]; exact nofun)) (by rw [firePocket_frame]) (fun q ne => ?_) ?_
    · rw [State.face, firePocket_record, if_neg ne, State.face]
    · exact not_held_of_none (by rw [firePocket_record, if_pos rfl])
  | sweep p r record out =>
    have before : r.state ≠ .held := by rcases out with state | state <;> rw [state] <;> decide
    refine h.of_one (not_held_of_some record before) (by rw [sweepOut_frame]) (fun q ne => ?_) ?_
    · rw [State.face, sweepOut_record, if_neg ne, State.face]
    · exact not_held_of_none (by rw [sweepOut_record, if_pos rfl])
  | sweepHeld p =>
    refine h.of_drop (p := p) (by rw [sweepOut_frame]; rfl) (fun q ne => ?_) ?_
    · rw [State.face, sweepOut_record, if_neg ne]; rfl
    · exact not_held_of_none (by rw [sweepOut_record, if_pos rfl])
  | expire => rw [expireEntry_frame]; exact h
  | classed | retestRev => rw [State.modCounts, State.modBank_frame]; exact h
  | gradeSweep p r w record measuring _ _ _ graded =>
    exact h.setRecord record (by rw [measuring]; decide) (by rw [graded]; exact nofun)
  | retest p r w k record measuring _ _ _ state =>
    exact h.setRecord record (by rw [measuring]; decide) (by rw [state]; decide)
  | pass p r record waits =>
    exact h.setRecord record (by rcases waits with state | state <;> rw [state] <;> decide) (by simp [Part.cleared])
  | gradeBin p r w b o record measuring _ _ _ graded =>
    exact HoldOk.setRecord (s := grant s b) (by rw [grant_frame]; exact h) ((record_grant s b p).trans record)
      (by rw [measuring]; decide) (by rw [graded]; exact nofun)
  | hold p r w cls record measuring _ same _ state grade room =>
    exact h.holdPart record (by rw [measuring]; decide) same.serial state grade room
  | sample v =>
    rcases Nat.lt_or_ge s.drm.config.alarmLimit v.natAbs with beyond | within
    · rw [sampleArrival_of_beyond beyond]
      exact HoldOk.tripTrigger (s := ((s.modDrm fun d => d.sampled v).modDrm fun d => { d with latch := true }).raise .driftAlarm) h _
    · rw [sampleArrival_of_within within]; exact h
  | trigger | listen => rw [State.modPort_frame]; exact h
  | skip id p =>
    exact h.of_face (State.face_modPart s p fun r => r.setResult_face id .skipped) (by rw [modPart_frame])
  | answerTaken id f => exact h.of_face (matchFrame_face s id f) (by rw [matchFrame_frame])
  | arrive home contact convalid => exact h.of_face (arrive_face home contact convalid s) (by rw [arrive_frame])
  | create st refsel _ empty state =>
    refine h.of_one (not_held_of_none empty) (by rw [createRecord_frame]) (fun q ne => ?_) ?_
    · rw [State.face, createRecord_record, if_neg ne, State.face]
    · exact not_held_of_some (by rw [createRecord_record, if_pos rfl]) (by rcases state with rfl | rfl <;> exact nofun)
  | productLoad => rw [productLoad_frame]; exact h
  | complete => rw [completionTest_frame]; exact h
  | bankReturn => rw [bankReturn_frame]; exact h
  | link v move => exact h.of_face rfl move.hold
  | owner _ op _ owned => exact h.owner owned ring
  | _ => exact h

/-- Settles O53: with the ring's law, for CLEAR_TRACK empties the pockets of the ring and the whole list. -/
theorem holdLawIsKept : Obligations.HoldLawIsKept := by
  unfold Obligations.HoldLawIsKept
  intro s t ring hold stepped
  refine And.right (step_keeps (P := fun a => RingOk a ∧ HoldOk a) (fun c a b move both => ?change)
    (fun a rest ha => ha) ?time ?reset ?release stepped ⟨ring, hold⟩)
  case change => exact ⟨both.1.change move, both.2.change move both.1⟩
  case time => intro a ha; rw [passTime_eq]; exact ha
  case reset =>
    intro por record count a _
    refine ⟨.resetBlocks .., ?_⟩
    refine ⟨by simp [resetBlocks, Svl.reset], by simp [resetBlocks, Svl.reset], by simp [resetBlocks, Svl.reset], fun p held => ?_⟩
    rw [not_held_of_none (by simp [State.record, resetBlocks, Ptk.reset])] at held
    cases held
  case release => exact fun _ pins rest => ⟨ring, hold⟩

end Sys2Proof.Machine
end

section
/-! PROOF. The bins' law (R108 to R119) is kept by every step: reserved moves with the GRADED records, and the drain test
follows whatever can leave a DRAINING bin with nothing to wait for. -/

namespace Sys2Proof.Machine

/-! ## One bin -/

/-- A bin's law for a bin record, the number of pockets GRADED with the bin, and whether its pulse runs. -/
def BinLaw (r : BinRec) (graded : Nat) (busy : Bool) : Prop :=
  r.reserved = graded ∧ r.filled + r.reserved ≤ r.capacity + r.margin ∧
    (r.state = .closed ∨ r.state = .exchange → r.reserved = 0 ∧ busy = false) ∧
    (r.state = .draining ∧ r.reserved = 0 → busy = true) ∧ (r.state ≠ .closed → 1 ≤ r.capacity)

/-- Whether a record is GRADED with a sort bin. -/
def Part.gradedWith (b : SortBin) (r : Part) : Bool := r.state == .graded (.bin b)

theorem binOk_iff {s : State} {b : SortBin} :
    BinOk s b ↔ BinLaw (s.bin b) (s.tally (Part.gradedWith b)) (pulseRunning s b) := Iff.rfl

/-- A bin record after a grant (R111, R112). -/
def BinRec.granted (r : BinRec) : BinRec :=
  { r with
    reserved := r.reserved + 1
    state := if r.state = .opened ∧ r.filled + r.reserved + 1 = r.capacity then .full else r.state }

/-- A bin record after the drain test (R119). -/
def BinRec.drained (r : BinRec) (busy : Bool) : BinRec :=
  { r with state := if r.state = .draining ∧ r.reserved = 0 ∧ busy = false then .exchange else r.state }

section
variable {r : BinRec} {n : Nat} {busy : Bool}

theorem BinLaw.in_use (h : BinLaw r (n + 1) busy) : r.state ≠ .closed ∧ r.state ≠ .exchange := by
  obtain ⟨count, -, resting, -⟩ := h
  constructor <;> intro state <;> have := (resting (by simp [state])).1 <;> omega

theorem BinLaw.granted (h : BinLaw r n busy) {o : Bool} (grants : r.grants o = true) : BinLaw r.granted (n + 1) busy := by
  obtain ⟨count, room, -, -, capacity⟩ := h
  have open_or_full : (r.state = .opened ∨ r.state = .full) ∧ r.filled + r.reserved < r.capacity + r.margin := by
    unfold BinRec.grants at grants
    split at grants
    next opened => split at grants <;> rw [decide_eq_true_eq] at grants <;> exact ⟨.inl opened, by omega⟩
    next full =>
      rw [Bool.and_eq_true, decide_eq_true_eq] at grants
      exact ⟨.inr full, grants.2⟩
    next => cases grants
  obtain ⟨state, free⟩ := open_or_full
  have granted : r.granted.state = .opened ∨ r.granted.state = .full := by
    unfold BinRec.granted
    dsimp only
    split
    · exact .inr rfl
    · exact state
  refine ⟨by simp [BinRec.granted, count], by simp only [BinRec.granted]; omega, fun resting => ?_, fun drains => ?_, fun _ => ?_⟩
  · rcases granted with state | state <;> simp [state] at resting
  · rcases granted with state | state <;> simp [state] at drains
  · exact capacity (by rcases state with state | state <;> simp [state])

theorem BinLaw.drained (count : r.reserved = n) (room : r.filled + r.reserved ≤ r.capacity + r.margin)
    (resting : r.state = .closed ∨ r.state = .exchange → r.reserved = 0 ∧ busy = false)
    (capacity : r.state ≠ .closed → 1 ≤ r.capacity) : BinLaw (r.drained busy) n busy := by
  by_cases drains : r.state = .draining ∧ r.reserved = 0 ∧ busy = false
  · obtain ⟨draining, unreserved, idle⟩ := drains
    refine ⟨count, room, fun _ => ⟨unreserved, idle⟩, fun state => ?_, fun _ => capacity (by simp [draining])⟩
    simp [BinRec.drained, draining, unreserved, idle] at state
  · have same : r.drained busy = r := by rw [BinRec.drained, if_neg drains]
    rw [same]
    refine ⟨count, room, resting, fun state => ?_, capacity⟩
    by_contra idle
    exact drains ⟨state.1, state.2, Bool.eq_false_iff.mpr idle⟩

theorem BinLaw.pulseEnded (h : BinLaw r n busy) : BinLaw (r.drained false) n false := by
  obtain ⟨count, room, resting, -, capacity⟩ := h
  exact .drained count room (fun state => ⟨(resting state).1, rfl⟩) capacity

theorem BinLaw.released (h : BinLaw r (n + 1) busy) : BinLaw (r.released busy 1) n busy := by
  have inUse := h.in_use
  obtain ⟨count, room, -, -, capacity⟩ := h
  have eq : r.released busy 1 = ({ r with reserved := r.reserved - 1 } : BinRec).drained busy := by
    have empties : r.reserved ≤ 1 ↔ r.reserved - 1 = 0 := by omega
    simp only [BinRec.released, BinRec.drained, empties, Nat.one_pos, true_and]
  rw [eq]
  refine .drained (by simp [count]) (by simp only; omega) (fun state => ?_) capacity
  rcases state with state | state
  · exact absurd state inUse.1
  · exact absurd state inUse.2

theorem BinLaw.fired (h : BinLaw r (n + 1) busy) :
    BinLaw { r with filled := r.filled + 1, reserved := r.reserved - 1 } n true := by
  have inUse := h.in_use
  obtain ⟨count, room, -, -, capacity⟩ := h
  refine ⟨by simp [count], by simp only; omega, fun state => ?_, fun _ => rfl, capacity⟩
  rcases state with state | state
  · exact absurd state inUse.1
  · exact absurd state inUse.2

theorem BinLaw.swapBegun (h : BinLaw r n busy) (inUse : r.state = .opened ∨ r.state = .full) :
    BinLaw (({ r with state := .draining } : BinRec).drained busy) n busy := by
  obtain ⟨count, room, -, -, capacity⟩ := h
  exact .drained count room (by simp) fun _ => capacity (by rcases inUse with state | state <;> simp [state])

theorem BinLaw.swapped (h : BinLaw r n busy) (exchange : r.state = .exchange) : BinLaw r.swapped n busy := by
  obtain ⟨count, room, resting, -, capacity⟩ := h
  have unreserved := (resting (.inr exchange)).1
  refine ⟨count, by simp only [BinRec.swapped]; omega, ?_, ?_, fun _ => capacity (by simp [exchange])⟩ <;>
    simp [BinRec.swapped]

theorem BinLaw.closed (h : BinLaw r n busy) (unreserved : r.reserved = 0) (idle : busy = false) :
    BinLaw { r with state := .closed } n busy := by
  obtain ⟨count, room, -⟩ := h
  exact ⟨count, room, fun _ => ⟨unreserved, idle⟩, by simp, by simp⟩

theorem BinLaw.resized (h : BinLaw r n busy) {capacity margin : Nat} (positive : 1 ≤ capacity)
    (room : r.filled + r.reserved ≤ capacity + margin) (below : Bool) :
    BinLaw { r with capacity := capacity, margin := margin, state := derivedState r.state below } n busy := by
  obtain ⟨count, -, resting, waits, -⟩ := h
  refine ⟨count, room, fun state => ?_, fun state => ?_, fun _ => positive⟩
  · rcases old : r.state with _ | _ | _ | _ | _ <;> cases below <;> simp [derivedState, old] at state
    all_goals exact resting (.inr old)
  · rcases old : r.state with _ | _ | _ | _ | _ <;> cases below <;> simp [derivedState, old] at state
    all_goals exact waits ⟨old, state⟩

end

/-! ## The bins after each operation -/

theorem grant_bin (s : State) (b c : SortBin) : (grant s b).bin c = if c = b then (s.bin b).granted else s.bin c := by
  unfold grant BinRec.granted
  dsimp only
  by_cases same : c = b
  · subst same
    rw [if_pos rfl]
    split
    · exact State.bin_setBin_same s c _
    · exact State.bin_setBin_same s c _
  · rw [if_neg same]
    split <;> exact State.bin_setBin_ne s (Ne.symm same) _

theorem drainTest_bin (s : State) (b c : SortBin) :
    (drainTest s b).bin c = if c = b then (s.bin b).drained (pulseRunning s b) else s.bin c := by
  split
  next same => subst same; exact drainTest_bin_self s c
  next ne => exact drainTest_bin_ne s ne

theorem lineOf_injective {b c : SortBin} (h : lineOf b = lineOf c) : b = c := Fin.succ_injective 15 h

theorem binOfLine_lineOf (b : SortBin) : binOfLine (lineOf b) = some b := by
  have ne : (lineOf b).val ≠ 0 := by simp [lineOf]
  rw [binOfLine, dif_neg ne]
  exact congrArg some (Fin.pred_succ b)

theorem eq_lineOf_of_binOfLine {l : Line} {b : SortBin} (h : binOfLine l = some b) : l = lineOf b := by
  unfold binOfLine at h
  split at h
  · cases h
  · cases h; exact (Fin.succ_pred ..).symm

theorem pulseRunning_setPulse (s : State) (l : Line) (x : Option Pulse) (c : SortBin) :
    pulseRunning (s.setPulse l x) c = if l = lineOf c then x.isSome else pulseRunning s c := by
  unfold pulseRunning
  split
  next same => rw [same, State.pulse_setPulse_same]
  next ne => rw [State.pulse_setPulse_ne s ne]

/-- A state whose bins, pulses and GRADED pockets are as they were. -/
theorem BinsOk.of_same {s t : State} (h : BinsOk s) (bins : t.bins = s.bins) (gates : t.gates = s.gates)
    (graded : ∀ b, t.tally (Part.gradedWith b) = s.tally (Part.gradedWith b)) : BinsOk t := fun b => by
  rw [binOk_iff, graded, State.bin, bins, pulseRunning, State.pulse, gates]
  exact h b

theorem BinsOk.of_face {s t : State} (h : BinsOk s) (bins : t.bins = s.bins) (gates : t.gates = s.gates)
    (face : t.face = s.face) : BinsOk t :=
  h.of_same bins gates fun _ => State.tally_of_face face fun _ => rfl

/-- A record that was and is GRADED with no sort bin. -/
theorem BinsOk.setRecord {s : State} (h : BinsOk s) {p : PocketNo} {x : Option Part}
    (before : ∀ b, (s.record p).any (Part.gradedWith b) = false) (after : ∀ b, x.any (Part.gradedWith b) = false) :
    BinsOk (s.setRecord p x) :=
  h.of_same rfl rfl fun b => by
    have counted := s.tally_setRecord p x (Part.gradedWith b)
    rwa [before, after] at counted

theorem gradedWith_of_state {r : Part} {st : PartState} (state : r.state = st) (b : SortBin) :
    r.gradedWith b = (st == .graded (.bin b)) := by
  rw [Part.gradedWith, state]

/-- A record GRADED with a bin goes, or takes another state; the bin's law then allows for one part fewer. -/
theorem BinsOk.tally_of_graded {s : State} {p : PocketNo} {r : Part} {b : SortBin} (record : s.record p = some r)
    (graded : r.state = .graded (.bin b)) {x : Option Part} (after : ∀ b, x.any (Part.gradedWith b) = false) :
    s.tally (Part.gradedWith b) = (s.setRecord p x).tally (Part.gradedWith b) + 1 ∧
      ∀ c, c ≠ b → (s.setRecord p x).tally (Part.gradedWith c) = s.tally (Part.gradedWith c) := by
  have counted (c : SortBin) := s.tally_setRecord p x (Part.gradedWith c)
  simp only [record, Option.any_some, gradedWith_of_state graded, after, Bool.toNat_false, Nat.add_zero] at counted
  refine ⟨by simpa using (counted b).symm, fun c ne => ?_⟩
  have := counted c
  rwa [beq_eq_false_iff_ne.mpr (by simpa using Ne.symm ne)] at this

/-- A release goes with the record that held the reservation. -/
theorem BinsOk.released {s : State} (h : BinsOk s) {p : PocketNo} {r : Part} {b : SortBin} (record : s.record p = some r)
    (graded : r.state = .graded (.bin b)) {x : Option Part} (after : ∀ b, x.any (Part.gradedWith b) = false) :
    BinsOk ((release s b).setRecord p x) := fun c => by
  obtain ⟨fewer, others⟩ := BinsOk.tally_of_graded record graded after
  have tally : ((release s b).setRecord p x).tally (Part.gradedWith c) = (s.setRecord p x).tally (Part.gradedWith c) :=
    State.tally_of_records (by rw [State.setRecord_ptk_records, release_ptk]; rfl) _
  have busy : pulseRunning ((release s b).setRecord p x) c = pulseRunning s c := by
    rw [release_frame]; rfl
  rw [binOk_iff, tally, busy, State.bin_setRecord, release_bin]
  by_cases same : c = b
  · subst same
    rw [if_pos rfl]
    exact BinLaw.released (fewer ▸ binOk_iff.mp (h c))
  · rw [if_neg same, BinRec.released_zero, others c same]
    exact h c

/-- A grant goes with the record that takes the reservation. -/
theorem BinsOk.granted {s : State} (h : BinsOk s) {p : PocketNo} {r w : Part} {b : SortBin} {o : Bool}
    (record : s.record p = some r) (before : ∀ b, r.gradedWith b = false) (graded : w.state = .graded (.bin b))
    (grants : (s.bin b).grants o = true) : BinsOk ((grant s b).setRecord p (some w)) := fun c => by
  have tally : ((grant s b).setRecord p (some w)).tally (Part.gradedWith c) =
      (s.setRecord p (some w)).tally (Part.gradedWith c) :=
    State.tally_of_records (by rw [State.setRecord_ptk_records, grant_frame]; rfl) _
  have busy : pulseRunning ((grant s b).setRecord p (some w)) c = pulseRunning s c := by
    rw [grant_frame]; rfl
  have counted := s.tally_setRecord p (some w) (Part.gradedWith c)
  simp only [record, Option.any_some, before, gradedWith_of_state graded, Bool.toNat_false, Nat.add_zero] at counted
  rw [binOk_iff, tally, busy, State.bin_setRecord, grant_bin, counted]
  by_cases same : c = b
  · subst same
    rw [if_pos rfl]
    simpa using (binOk_iff.mp (h c)).granted grants
  · rw [if_neg same, beq_eq_false_iff_ne.mpr (by simpa using Ne.symm same)]
    exact h c

theorem BinsOk.endPulse {s : State} (h : BinsOk s) (l : Line) : BinsOk (endPulse s l) := by
  unfold Machine.endPulse
  split
  next running =>
    split
    next none_of_line =>
      have other (c : SortBin) : l ≠ lineOf c := fun same => by rw [same, binOfLine_lineOf] at none_of_line; cases none_of_line
      intro c
      have busy : pulseRunning (s.setPulse l none) c = pulseRunning s c := by
        rw [pulseRunning_setPulse, if_neg (other c)]
      rw [binOk_iff, busy]
      exact h c
    next b of_line =>
      intro c
      have busy : pulseRunning (drainTest (s.setPulse l none) b) c = pulseRunning (s.setPulse l none) c := by
        rw [drainTest_frame]; rfl
      have tally : (drainTest (s.setPulse l none) b).tally (Part.gradedWith c) = s.tally (Part.gradedWith c) :=
        State.tally_of_records (by rw [drainTest_frame]; rfl) _
      rw [binOk_iff, busy, tally, drainTest_bin, pulseRunning_setPulse, pulseRunning_setPulse,
        eq_lineOf_of_binOfLine of_line]
      by_cases same : c = b
      · subst same
        simp only [if_true, Option.isSome_none]
        exact (binOk_iff.mp (h c)).pulseEnded
      · rw [if_neg same, if_neg fun lines => same (lineOf_injective lines).symm]
        exact h c
  next => exact h

/-- Under the law the drain test finds nothing to do. -/
theorem BinsOk.drainTest_eq {s : State} (h : BinsOk s) (b : SortBin) : drainTest s b = s := by
  rcases drainTest_cases s b with same | ⟨draining, unreserved, idle, -⟩
  · exact same
  · obtain ⟨-, -, -, waits, -⟩ := h b
    rw [waits ⟨draining, unreserved⟩] at idle
    cases idle

/-- The end of a pulse leaves a bin that has parts reserved. -/
theorem endPulse_bins_of_reserved {s : State} {b : SortBin} (reserved : (s.bin b).reserved ≠ 0) :
    (Machine.endPulse s (lineOf b)).bins = s.bins := by
  unfold Machine.endPulse
  split
  · rw [binOfLine_lineOf]
    dsimp only
    rw [drainTest, if_neg fun drains => reserved drains.2.1]
    rfl
  · rfl

theorem pulse_startPulse (s : State) (l m : Line) :
    (startPulse s l).pulse m = if m = l then some ⟨s.ptk.ring.pulseWidth, 0⟩ else s.pulse m := by
  unfold startPulse
  split
  next same => subst same; exact State.pulse_setPulse_same _ m _
  next ne =>
    rw [State.pulse_setPulse_ne _ (Ne.symm ne)]
    unfold Machine.endPulse
    split
    · split
      · exact State.pulse_setPulse_ne s (Ne.symm ne) _
      · rw [drainTest_frame]; exact State.pulse_setPulse_ne s (Ne.symm ne) _
    · rfl

theorem startPulse_zero_bins (s : State) : (startPulse s 0).bins = s.bins := by
  unfold startPulse Machine.endPulse
  split <;> rfl

theorem pulseRunning_startPulse (s : State) (l : Line) (c : SortBin) :
    pulseRunning (startPulse s l) c = if lineOf c = l then true else pulseRunning s c := by
  rw [pulseRunning, pulse_startPulse]
  split <;> rfl

/-- The bins after a fire at a bin with parts reserved (R114, R128): its pulse runs, so its drain waits. -/
theorem firePocket_bin {s : State} {b : SortBin} (reserved : (s.bin b).reserved ≠ 0) (p : PocketNo) (r : Part) (c : SortBin) :
    (firePocket s p r b).bin c =
      if c = b then { s.bin b with filled := (s.bin b).filled + 1, reserved := (s.bin b).reserved - 1 } else s.bin c := by
  have started (c : SortBin) : (startPulse s (lineOf b)).bin c = s.bin c := by
    unfold startPulse
    rw [State.bin, State.setPulse_bins, endPulse_bins_of_reserved reserved, State.bin]
  have waits : pulseRunning (startPulse s (lineOf b)) b = true := by rw [pulseRunning_startPulse, if_pos rfl]
  have fired : (firePocket s p r b).bin c = (fireReport (startPulse s (lineOf b)) b).bin c := by
    unfold firePocket
    rw [State.bin, emptyPocket_bins, exitReport_frame, State.bin]
  rw [fired, fireReport, drainTest, if_neg fun drains => Bool.eq_false_iff.mp drains.2.2 waits]
  split
  next same => subst same; rw [State.bin_setBin_same, started]
  next ne => rw [State.bin_setBin_ne _ (Ne.symm ne), started]

theorem firePocket_gates (s : State) (p : PocketNo) (r : Part) (b : SortBin) :
    (firePocket s p r b).gates = (startPulse s (lineOf b)).gates := by
  unfold firePocket
  rw [emptyPocket_gates, exitReport_frame, fireReport_frame]

/-- After a pocket is emptied, the counts are those of the state without its record. -/
theorem tally_of_emptied {s t : State} {p : PocketNo} (records : ∀ q, t.record q = if q = p then none else s.record q)
    (test : Part → Bool) : t.tally test = (s.setRecord p none).tally test := by
  have same : (fun q => (t.record q).any test) = fun q => ((s.setRecord p none).record q).any test := by
    funext q
    rw [records]
    split
    next e => subst e; rw [State.record_setRecord_same]
    next ne => rw [State.record_setRecord_ne s (Ne.symm ne)]
  simp only [State.tally, same]

theorem BinsOk.fired {s : State} (h : BinsOk s) {p : PocketNo} {r : Part} {b : SortBin} (record : s.record p = some r)
    (graded : r.state = .graded (.bin b)) : BinsOk (firePocket s p r b) := fun c => by
  obtain ⟨fewer, others⟩ := BinsOk.tally_of_graded record graded (x := none) fun _ => rfl
  have law := binOk_iff.mp (h b)
  rw [fewer] at law
  have reserved : (s.bin b).reserved ≠ 0 := by obtain ⟨count, -⟩ := law; omega
  have busy : pulseRunning (firePocket s p r b) c = if lineOf c = lineOf b then true else pulseRunning s c := by
    rw [← pulseRunning_startPulse, pulseRunning, State.pulse, firePocket_gates]; rfl
  rw [binOk_iff, tally_of_emptied (firePocket_record s p r b), busy, firePocket_bin reserved]
  by_cases same : c = b
  · subst same
    simpa using law.fired
  · rw [if_neg same, if_neg fun lines => same (lineOf_injective lines), others c same]
    exact h c

theorem BinsOk.swept {s : State} (h : BinsOk s) {p : PocketNo} (before : ∀ b, (s.record p).any (Part.gradedWith b) = false) :
    BinsOk (sweepOut s p) := fun c => by
  have emptied := h.setRecord before (x := none) (fun _ => rfl) c
  rcases record : s.record p with _ | r
  · rw [show sweepOut s p = s by simp only [sweepOut, record]]; exact h c
  have bins : (sweepOut s p).bin c = s.bin c := by
    rw [sweepOut_of_some record, State.bin, emptyPocket_bins, exitReport_frame]
    exact congrArg (fun v : Vector BinRec 15 => v[c]) (startPulse_zero_bins s)
  have busy : pulseRunning (sweepOut s p) c = pulseRunning s c := by
    rw [sweepOut_of_some record, pulseRunning, State.pulse, emptyPocket_gates, exitReport_frame]
    exact (pulseRunning_startPulse s 0 c).trans (if_neg (Fin.succ_ne_zero c))
  rw [binOk_iff, tally_of_emptied (sweepOut_record s p), bins, busy]
  exact emptied

theorem BinsOk.setBin {s : State} (h : BinsOk s) {b : SortBin} {r : BinRec}
    (law : BinLaw r (s.tally (Part.gradedWith b)) (pulseRunning s b)) : BinsOk (s.setBin b r) := fun c => by
  have tally : (s.setBin b r).tally (Part.gradedWith c) = s.tally (Part.gradedWith c) := State.tally_of_records rfl _
  rw [binOk_iff, tally]
  change BinLaw ((s.setBin b r).bin c) _ (pulseRunning s c)
  by_cases same : b = c
  · subst same; rw [State.bin_setBin_same]; exact law
  · rw [State.bin_setBin_ne s same]; exact h c

theorem BinsOk.swapBegun {s : State} (h : BinsOk s) {b : SortBin} (inUse : (s.bin b).state = .opened ∨ (s.bin b).state = .full) :
    BinsOk (beginSwap s b) := fun c => by
  have busy : pulseRunning (beginSwap s b) c = pulseRunning s c := by rw [beginSwap_frame]; rfl
  have tally : (beginSwap s b).tally (Part.gradedWith c) = s.tally (Part.gradedWith c) :=
    State.tally_of_records (by rw [beginSwap_frame]) _
  rw [binOk_iff, busy, tally, beginSwap, drainTest_bin]
  by_cases same : c = b
  · subst same
    rw [if_pos rfl, State.bin_setBin_same]
    exact (binOk_iff.mp (h c)).swapBegun inUse
  · rw [if_neg same, State.bin_setBin_ne s (Ne.symm same)]
    exact h c

theorem BinsOk.resized {s : State} (h : BinsOk s) {b : SortBin} {capacity margin : Nat} (positive : 1 ≤ capacity)
    (room : (s.bin b).filled + (s.bin b).reserved ≤ capacity + margin) : BinsOk (resizeBin s b capacity margin) := by
  have resized := h.setBin ((binOk_iff.mp (h b)).resized positive room
    (decide ((s.bin b).filled + (s.bin b).reserved < capacity)))
  unfold resizeBin
  dsimp only
  split
  · exact resized
  · exact resized

/-! ## The steps -/

theorem Part.Struck.ungraded {r w : Part} (struck : r.Struck w) (b : SortBin) : w.gradedWith b = false := by
  rcases struck.gone with state | state <;> rw [gradedWith_of_state state] <;> exact beq_eq_false_iff_ne.mpr nofun

theorem BinsOk.strike {s t : State} (move : Strike s t) (h : BinsOk s) : BinsOk t := by
  have before {p : PocketNo} {r : Part} (record : s.record p = some r) (other : ∀ b, r.state ≠ .graded (.bin b))
      (b : SortBin) : (s.record p).any (Part.gradedWith b) = false := by
    rw [record]; exact beq_eq_false_iff_ne.mpr (other b)
  cases move with
  | binned p r w b record graded struck => exact h.released record graded struck.ungraded
  | held p r w record held struck =>
    exact BinsOk.setRecord (s := dropHold s p) h (before record fun b => by rw [held]; exact nofun) struck.ungraded
  | measured p r w record measuring struck =>
    exact BinsOk.setRecord (s := { s with portA := s.portA.lose p, portB := s.portB.lose p }) h
      (before record fun b => by rw [measuring]; exact nofun) struck.ungraded
  | plain p r w record _ _ ungraded struck => exact h.setRecord (before record ungraded) struck.ungraded

theorem BinsOk.tripTrigger {s : State} (h : BinsOk s) (c : Cause) : BinsOk (tripTrigger s c) :=
  tripTrigger_keeps (fun _ _ => BinsOk.strike) (fun _ _ ha => ha) h

theorem emptyPocket_tally {s : State} (p : PocketNo) (test : Part → Bool) :
    (emptyPocket s p).tally test = (s.setRecord p none).tally test :=
  tally_of_emptied (fun q => by
    split
    next same => subst same; exact emptyPocket_record_self s q
    next ne => exact emptyPocket_record_ne s ne) test

theorem BinsOk.clearPocket {s : State} (h : BinsOk s) (p : PocketNo) : BinsOk (clearPocket s p) := by
  rcases record : s.record p with _ | r
  · rw [clearPocket_of_none record]; exact h
  have reported : BinsOk (clearedReport s r.tag) := by rw [clearedReport_frame]; exact h
  have same : (clearedReport s r.tag).record p = some r := by rw [clearedReport_frame]; exact record
  have cleared : BinsOk ((clearRelease (clearedReport s r.tag) r.state).setRecord p none) := by
    by_cases graded : ∃ b, r.state = .graded (.bin b)
    · obtain ⟨b, graded⟩ := graded
      rw [graded]
      exact reported.released same graded fun _ => rfl
    · have kept : clearRelease (clearedReport s r.tag) r.state = clearedReport s r.tag := by
        unfold clearRelease
        split
        next b state => exact absurd ⟨b, state⟩ graded
        next => rfl
      rw [kept]
      refine reported.setRecord (fun b => ?_) fun _ => rfl
      rw [same]
      exact beq_eq_false_iff_ne.mpr fun state => graded ⟨b, state⟩
  rw [clearPocket_of_some record]
  exact cleared.of_same (emptyPocket_bins _ p) (emptyPocket_gates _ p) fun b => emptyPocket_tally p _

theorem BinsOk.owner {op : Byte} {s t : State} (move : OwnerChange op s t) (h : BinsOk s) : BinsOk t := by
  cases move with
  | verdictSweep _ p r record held =>
    refine h.setRecord (fun b => ?_) fun b => ?_
    · rw [record]; exact gradedWith_of_state held b
    · rfl
  | verdictBin _ p r b o record held granted => exact h.granted record (gradedWith_of_state held) rfl granted
  | verdictRetest _ p r k record held =>
    refine h.setRecord (fun b => ?_) fun b => ?_
    · rw [record]; exact gradedWith_of_state held b
    · rfl
  | clearTrack => exact clearTrack_keeps (fun a p ha => ha.clearPocket p) (fun a ha => ha) h
  | trip => exact h.tripTrigger _
  | timeout | restore => rw [State.modPort_frame]; exact h
  | write => rw [State.modBank_frame]; exact h
  | activateDraining => rw [switchTo_frame]; exact h
  | activateStandby => rw [switchTo_frame, State.modCounts, State.modBank_frame]; exact h
  | closeBin _ b unreserved idle => exact h.setBin ((binOk_iff.mp (h b)).closed unreserved idle)
  | resizeBin _ b capacity margin positive room => exact h.resized positive room
  | swapBegin _ b inUse => exact h.swapBegun inUse
  | swapDone _ b exchange => exact h.setBin ((binOk_iff.mp (h b)).swapped exchange)
  | _ => exact h

theorem BinsOk.change {c : Instr} {s t : State} (move : Change c s t) (h : BinsOk s) : BinsOk t := by
  have before {p : PocketNo} {r : Part} {st : PartState} (record : s.record p = some r) (state : r.state = st)
      (other : ∀ b, st ≠ .graded (.bin b)) (b : SortBin) : (s.record p).any (Part.gradedWith b) = false := by
    rw [record, Option.any_some, gradedWith_of_state state]; exact beq_eq_false_iff_ne.mpr (other b)
  have after {w : Part} {st : PartState} (state : w.state = st) (other : ∀ b, st ≠ .graded (.bin b)) (b : SortBin) :
      (some w).any (Part.gradedWith b) = false := by
    rw [Option.any_some, gradedWith_of_state state]; exact beq_eq_false_iff_ne.mpr (other b)
  cases move with
  | void p => exact (voidPocket_strikes s p).keeps (fun _ _ => BinsOk.strike) h
  | recirc p => exact (recircPocket_strikes s p).keeps (fun _ _ => BinsOk.strike) h
  | trip cause => exact h.tripTrigger cause
  | fault id =>
    refine h.of_face ?_ ?_ (faultPort_face s id) <;>
      rw [faultPort, State.modPort_frame, writeLost_frame] <;> rfl
  | endPulse l => exact h.endPulse l
  | drain b => rw [h.drainTest_eq]; exact h
  | fire p r b record graded => exact h.fired record graded
  | sweep p r record out =>
    rcases out with state | state
    · exact h.swept (before record state (by simp))
    · exact h.swept (before record state nofun)
  | sweepHeld p r record held => exact BinsOk.swept (s := dropHold s p) h (before record held nofun)
  | expire => rw [expireEntry_frame]; exact h
  | classed | retestRev => rw [State.modCounts, State.modBank_frame]; exact h
  | gradeSweep p r w record measuring _ _ _ graded =>
    exact h.setRecord (before record measuring nofun) (after graded (by simp))
  | retest p r w k record measuring _ _ _ state =>
    exact h.setRecord (before record measuring nofun) (after state nofun)
  | hold p r w cls record measuring _ _ _ state =>
    exact h.setRecord (before record measuring nofun) (after state nofun)
  | pass p r record waits =>
    refine h.setRecord ?_ (after rfl nofun)
    rcases waits with state | state <;> exact before record state nofun
  | gradeBin p r w b o record measuring _ _ _ graded granted =>
    exact h.granted record (gradedWith_of_state measuring) graded granted
  | sample v =>
    rcases Nat.lt_or_ge s.drm.config.alarmLimit v.natAbs with beyond | within
    · rw [sampleArrival_of_beyond beyond]
      exact BinsOk.tripTrigger (s := ((s.modDrm fun d => d.sampled v).modDrm fun d => { d with latch := true }).raise .driftAlarm) h _
    · rw [sampleArrival_of_within within]; exact h
  | trigger | listen => rw [State.modPort_frame]; exact h
  | skip id p =>
    exact h.of_face (by rw [modPart_frame]) (by rw [modPart_frame])
      (State.face_modPart s p fun r => r.setResult_face id .skipped)
  | answerTaken id f => exact h.of_face (by rw [matchFrame_frame]) (by rw [matchFrame_frame]) (matchFrame_face s id f)
  | arrive home contact convalid =>
    exact h.of_face (by rw [arrive_frame]) (by rw [arrive_frame]) (arrive_face home contact convalid s)
  | create st refsel _ empty state =>
    rw [createRecord_frame]
    refine BinsOk.setRecord h (fun b => by rw [empty]; rfl) (after rfl fun b => ?_)
    rcases state with rfl | rfl <;> exact nofun
  | productLoad => rw [productLoad_frame]; exact h
  | complete => rw [completionTest_frame]; exact h
  | bankReturn => rw [bankReturn_frame]; exact h
  | owner _ op _ owned => exact h.owner owned
  | _ => exact h

/-- Settles O54. -/
theorem binsLawIsKept : Obligations.BinsLawIsKept := by
  unfold Obligations.BinsLawIsKept
  intro s t _ bins stepped
  refine step_keeps (P := BinsOk) (fun c a b => BinsOk.change) (fun a rest ha => ha) ?time ?reset ?release stepped bins
  case time =>
    intro a ha b
    have busy : pulseRunning (passTime a) b = pulseRunning a b := by
      rw [pulseRunning, passTime_pulse, Option.isSome_map, pulseRunning]
    rw [binOk_iff, busy, passTime_eq]
    exact ha b
  case reset =>
    intro por record count a _ b
    have bin : (resetBlocks por record count a).bin b = .reset := by simp [State.bin, resetBlocks]
    have tally : (resetBlocks por record count a).tally (Part.gradedWith b) = 0 := by
      simp [State.tally, State.record, resetBlocks, Ptk.reset]
    have busy : pulseRunning (resetBlocks por record count a) b = false := by
      simp [pulseRunning, State.pulse, resetBlocks]
    rw [binOk_iff, bin, tally, busy]
    exact ⟨rfl, Nat.le_refl _, fun _ => ⟨rfl, rfl⟩, nofun, fun open_ => absurd rfl open_⟩
  case release => exact fun _ pins rest => bins

end Sys2Proof.Machine
end

section
/-! PROOF. The ports' law (R42, R57, R58) is kept by every step: an entry goes before its pocket's record stops MEASURING. -/

namespace Sys2Proof.Machine

/-! ## One port -/

/-- A port's law for a port and the MEASURING pockets. -/
def PortLaw (m : MeterPort) (measuring : PocketNo → Bool) : Prop :=
  m.entries.length ≤ 4 ∧ (m.entries.map Outstanding.pocket).Nodup ∧ (∀ e ∈ m.entries, measuring e.pocket = true) ∧
    (m.state ≠ .online → m.entries = []) ∧ (m.timer.isSome = true ↔ m.entries ≠ [])

section
variable {m n : MeterPort} {measuring : PocketNo → Bool}

theorem PortLaw.of_same (h : PortLaw m measuring) (state : n.state = m.state) (entries : n.entries = m.entries)
    (timer : n.timer = m.timer) : PortLaw n measuring := by
  unfold PortLaw
  rw [state, entries, timer]
  exact h

theorem PortLaw.of_empty (entries : m.entries = []) (timer : m.timer = none) : PortLaw m measuring := by
  simp [PortLaw, entries, timer]

theorem PortLaw.setEntries (h : PortLaw m measuring) {es : List Outstanding} (kept : es.Sublist m.entries) :
    PortLaw (m.setEntries es) measuring := by
  obtain ⟨four, once, all, online, timer⟩ := h
  refine ⟨kept.length_le.trans four, once.sublist (kept.map _), fun e mem => all e (kept.subset mem), fun off => ?_, ?_⟩
  · exact List.sublist_nil.mp (online off ▸ kept)
  · rw [MeterPort.setEntries_timer, MeterPort.setEntries_entries]
    by_cases none_left : es = []
    · simp [none_left]
    · have running : m.timer.isSome = true := timer.mpr fun empty => none_left (List.sublist_nil.mp (empty ▸ kept))
      refine iff_of_true ?_ none_left
      rw [if_neg none_left]
      split
      · exact running
      · rfl

theorem PortLaw.without (h : PortLaw m measuring) (p : PocketNo) : PortLaw (m.without p) measuring :=
  h.setEntries List.filter_sublist

theorem PortLaw.lose (h : PortLaw m measuring) (p : PocketNo) : PortLaw (m.lose p) measuring := by
  unfold MeterPort.lose
  split
  · exact h
  · exact h.without p

theorem MeterPort.names_lose (m : MeterPort) (p : PocketNo) : (m.lose p).names p = false := by
  rw [MeterPort.lose_eq_loseAll, MeterPort.names, MeterPort.loseAll_entries]
  simp

/-- What the law asks of the pockets that the port does not name is nothing. -/
theorem PortLaw.of_agree (h : PortLaw m measuring) {now : PocketNo → Bool}
    (agree : ∀ q, m.names q = true → now q = measuring q) : PortLaw m now := by
  obtain ⟨four, once, all, rest⟩ := h
  refine ⟨four, once, fun e mem => ?_, rest⟩
  rw [agree e.pocket (List.any_eq_true.mpr ⟨e, mem, beq_self_eq_true _⟩)]
  exact all e mem

theorem PortLaw.names_measuring (h : PortLaw m measuring) {p : PocketNo} (named : m.names p = true) : measuring p = true := by
  obtain ⟨-, -, all, -⟩ := h
  obtain ⟨e, mem, same⟩ := List.any_eq_true.mp named
  rw [← eq_of_beq same]
  exact all e mem

theorem PortLaw.triggered (h : PortLaw m measuring) {p : PocketNo} (now : measuring p = true) (unnamed : m.names p = false)
    (online : m.state = .online) (room : m.entries.length < 4) (x : Int) : PortLaw (m.triggered p x) measuring := by
  obtain ⟨four, once, all, -, timer⟩ := h
  refine ⟨by simpa [MeterPort.triggered] using room, ?_, fun e mem => ?_, fun off => absurd online off, ?_⟩
  · simp only [MeterPort.triggered, List.map_append, List.map_singleton]
    refine List.nodup_append.mpr ⟨once, List.nodup_singleton _, fun q listed r new => ?_⟩
    rw [List.mem_singleton] at new
    subst new
    rintro rfl
    obtain ⟨e, mem, same⟩ := List.mem_map.mp listed
    have named : m.names q = true := List.any_eq_true.mpr ⟨e, mem, beq_iff_eq.mpr same⟩
    rw [named] at unnamed
    cases unnamed
  · rcases List.mem_append.mp mem with listed | new
    · exact all e listed
    · rw [List.mem_singleton.mp new]; exact now
  · by_cases none_before : m.entries = []
    · simp [MeterPort.triggered, none_before]
    · simpa [MeterPort.triggered, none_before] using timer.mpr none_before

theorem PortLaw.aged (h : PortLaw m measuring) : PortLaw m.aged measuring := by
  obtain ⟨four, once, all, online, timer⟩ := h
  refine ⟨by simpa [MeterPort.aged] using four, ?_, fun e mem => ?_, fun off => ?_, ?_⟩
  · simpa [MeterPort.aged, Function.comp_def, Outstanding.aged] using once
  · obtain ⟨young, listed, rfl⟩ := List.mem_map.mp mem
    exact all young listed
  · simp [MeterPort.aged, online off]
  · simpa [MeterPort.aged] using timer

end

/-! ## Both ports -/

theorem portsOk_iff (s : State) :
    PortsOk s ↔ (∀ id, PortLaw (s.port id) (isMeasuring s)) ∧ s.portA.state ≠ .absent :=
  ⟨fun ⟨a, b, fitted⟩ => ⟨fun | .a => a | .b => b, fitted⟩, fun ⟨both, fitted⟩ => ⟨both .a, both .b, fitted⟩⟩

theorem isMeasuring_of_face {s t : State} (face : t.face = s.face) : isMeasuring t = isMeasuring s := by
  funext p; rw [isMeasuring_eq_face, face, isMeasuring_eq_face]

theorem State.port_of_ports {s t : State} (portA : t.portA = s.portA) (portB : t.portB = s.portB) (id : PortId) :
    t.port id = s.port id := by
  cases id with
  | a => exact portA
  | b => exact portB

theorem PortsOk.of_face {s t : State} (h : PortsOk s) (portA : t.portA = s.portA) (portB : t.portB = s.portB)
    (face : t.face = s.face) : PortsOk t := by
  rw [portsOk_iff, isMeasuring_of_face face, portA]
  obtain ⟨both, fitted⟩ := (portsOk_iff s).mp h
  refine ⟨fun id => ?_, fitted⟩
  rw [State.port_of_ports portA portB]
  exact both id

/-- A port's change that keeps its law, and does not take port A away. -/
theorem PortsOk.modPort {s : State} (h : PortsOk s) {id : PortId} {f : MeterPort → MeterPort}
    (law : PortLaw (f (s.port id)) (isMeasuring s)) (fitted : (s.port id).state ≠ .absent → (f (s.port id)).state ≠ .absent) :
    PortsOk (s.modPort id f) := by
  obtain ⟨a, b, there⟩ := h
  cases id with
  | a => exact ⟨law, b, fitted there⟩
  | b => exact ⟨a, law, there⟩

/-- A pocket that is not MEASURING has no entries. -/
theorem PortsOk.unnamed {s : State} (h : PortsOk s) {p : PocketNo} (other : isMeasuring s p = false) : Unnamed s p :=
  fun id => Bool.eq_false_iff.mpr fun named => by
    rw [((portsOk_iff s).mp h).1 id |>.names_measuring named] at other
    cases other

/-- The records may change at a pocket without entries. -/
theorem PortsOk.of_unnamed {s t : State} (h : PortsOk s) {p : PocketNo} (unnamed : Unnamed s p)
    (portA : t.portA = s.portA) (portB : t.portB = s.portB) (others : ∀ q, q ≠ p → t.record q = s.record q) : PortsOk t := by
  have agree (id : PortId) (q : PocketNo) (named : (s.port id).names q = true) : isMeasuring t q = isMeasuring s q := by
    have ne : q ≠ p := fun same => by rw [same, unnamed id] at named; cases named
    rw [isMeasuring, others q ne, isMeasuring]
  obtain ⟨both, fitted⟩ := (portsOk_iff s).mp h
  refine (portsOk_iff t).mpr ⟨fun id => ?_, portA ▸ fitted⟩
  rw [State.port_of_ports portA portB]
  exact (both id).of_agree (agree id)

theorem PortsOk.setRecord {s : State} (h : PortsOk s) {p : PocketNo} (unnamed : Unnamed s p) (x : Option Part) :
    PortsOk (s.setRecord p x) :=
  h.of_unnamed unnamed rfl rfl fun _ ne => State.record_setRecord_ne s ne.symm x

theorem PortsOk.unnamed_of_state {s : State} (h : PortsOk s) {p : PocketNo} {r : Part} (record : s.record p = some r)
    (other : r.state ≠ .measuring) : Unnamed s p :=
  h.unnamed (by rw [isMeasuring_of_some record, decide_eq_false other])

theorem PortsOk.lose {s : State} (h : PortsOk s) (p : PocketNo) :
    PortsOk { s with portA := s.portA.lose p, portB := s.portB.lose p } := by
  obtain ⟨a, b, fitted⟩ := h
  refine ⟨PortLaw.lose a p, PortLaw.lose b p, ?_⟩
  unfold MeterPort.lose
  split
  · exact fitted
  · exact fitted

theorem PortsOk.strike {s t : State} (move : Strike s t) (h : PortsOk s) : PortsOk t := by
  cases move with
  | binned p r w b record graded _ =>
    refine PortsOk.setRecord (s := release s b) (by rw [release_frame]; exact h) ?_ _
    rw [release_frame]
    exact h.unnamed_of_state record (by rw [graded]; exact nofun)
  | held p r w record held _ =>
    exact PortsOk.setRecord (s := dropHold s p) h (h.unnamed_of_state record (by rw [held]; exact nofun)) _
  | measured p r w record =>
    exact (h.lose p).setRecord (fun | .a => MeterPort.names_lose _ p | .b => MeterPort.names_lose _ p) _
  | plain p r w record other => exact h.setRecord (h.unnamed_of_state record other) _

theorem PortsOk.tripTrigger {s : State} (h : PortsOk s) (c : Cause) : PortsOk (tripTrigger s c) :=
  tripTrigger_keeps (fun _ _ => PortsOk.strike) (fun _ _ ha => ha) h

theorem PortsOk.faultPort {s : State} (h : PortsOk s) (id : PortId) : PortsOk (faultPort s id) := by
  have written : PortsOk (writeLost s id (s.port id).entries) :=
    h.of_face (by rw [writeLost_frame]) (by rw [writeLost_frame]) (writeLost_face s id _)
  exact PortsOk.modPort written (id := id) (PortLaw.of_empty rfl rfl) fun _ => nofun

theorem PortsOk.matchFrame {s : State} (h : PortsOk s) (id : PortId) (f : ResultFrame) : PortsOk (matchFrame s id f) := by
  unfold Machine.matchFrame
  dsimp only
  split
  · exact h.modPort ((((portsOk_iff s).mp h).1 id).of_same rfl rfl rfl) fun fitted => fitted
  next e younger split =>
    have kept : younger.Sublist (s.port id).entries :=
      (List.sublist_cons_self e younger).trans (split ▸ List.dropWhile_sublist _)
    have older := writeLost_face s id ((s.port id).entries.takeWhile fun e => e.seq != f.seq)
    have ports := writeLost_frame s id ((s.port id).entries.takeWhile fun e => e.seq != f.seq)
    have written : PortsOk (writeLost s id ((s.port id).entries.takeWhile fun e => e.seq != f.seq)) :=
      h.of_face (by rw [ports]) (by rw [ports]) older
    have same : (writeLost s id ((s.port id).entries.takeWhile fun e => e.seq != f.seq)).port id = s.port id := by
      rw [ports]; cases id <;> rfl
    refine PortsOk.of_face ?_ (by rw [modPart_frame]) (by rw [modPart_frame])
      (State.face_modPart _ e.pocket fun r => r.setResult_face id _)
    refine written.modPort ?_ fun fitted => fitted
    refine ((((portsOk_iff _).mp written).1 id).setEntries (es := younger) (by rw [same]; exact kept)).of_same ?_ ?_ ?_ <;> rfl

theorem PortsOk.expireEntry {s : State} (h : PortsOk s) (id : PortId) (p : PocketNo) : PortsOk (expireEntry s id p) := by
  unfold Machine.expireEntry
  split
  · exact h
  · exact h.modPort (((portsOk_iff s).mp h).1 id |>.without p) fun fitted => fitted

theorem PortsOk.owner {op : Byte} {s t : State} (move : OwnerChange op s t) (h : PortsOk s) : PortsOk t := by
  have unnamed {p : PocketNo} {r : Part} (record : s.record p = some r) (held : r.state = .held) : Unnamed s p :=
    h.unnamed_of_state record (by rw [held]; exact nofun)
  cases move with
  | verdictSweep _ p r record held => exact h.setRecord (unnamed record held) _
  | verdictBin _ p r b o record held =>
    refine PortsOk.setRecord (s := grant s b) (by rw [grant_frame]; exact h) ?_ _
    rw [grant_frame]
    exact unnamed record held
  | verdictRetest _ p r k record held => exact h.setRecord (unnamed record held) _
  | clearTrack =>
    obtain ⟨-, -, fitted⟩ := h
    rw [clearTrack_frame]
    exact ⟨PortLaw.of_empty rfl rfl, PortLaw.of_empty rfl rfl, fitted⟩
  | trip => exact h.tripTrigger _
  | timeout _ id ms => exact h.modPort ((((portsOk_iff s).mp h).1 id).of_same rfl rfl rfl) fun fitted => fitted
  | restore _ id faulted =>
    obtain ⟨-, -, -, online, timer⟩ := ((portsOk_iff s).mp h).1 id
    have empty : (s.port id).entries = [] := online (by rw [faulted]; exact nofun)
    have stopped : (s.port id).timer = none := by
      rw [← Option.not_isSome_iff_eq_none, timer]; exact fun listed => listed empty
    exact h.modPort (PortLaw.of_empty empty stopped) fun _ => nofun
  | write => rw [State.modBank_frame]; exact h
  | activateDraining => rw [switchTo_frame]; exact h
  | activateStandby => rw [switchTo_frame, State.modCounts, State.modBank_frame]; exact h
  | resizeBin => rw [resizeBin_frame]; exact h
  | swapBegin => rw [beginSwap_frame]; exact h
  | _ => exact h

theorem PortsOk.change {c : Instr} {s t : State} (move : Change c s t) (h : PortsOk s) : PortsOk t := by
  have law (id : PortId) := ((portsOk_iff s).mp h).1 id
  cases move with
  | void p => exact (voidPocket_strikes s p).keeps (fun _ _ => PortsOk.strike) h
  | recirc p => exact (recircPocket_strikes s p).keeps (fun _ _ => PortsOk.strike) h
  | trip cause => exact h.tripTrigger cause
  | fault id => exact h.faultPort id
  | endPulse l => rw [endPulse_frame]; exact h
  | drain b => rw [drainTest_frame]; exact h
  | fire p r b record graded =>
    refine h.of_unnamed (h.unnamed_of_state record (by rw [graded]; exact nofun)) (by rw [firePocket_frame])
      (by rw [firePocket_frame]) fun q ne => by rw [firePocket_record, if_neg ne]
  | sweep p r record out =>
    have other : r.state ≠ .measuring := by rcases out with state | state <;> rw [state] <;> exact nofun
    exact h.of_unnamed (h.unnamed_of_state record other) (by rw [sweepOut_frame]) (by rw [sweepOut_frame])
      fun q ne => by rw [sweepOut_record, if_neg ne]
  | sweepHeld p r record held =>
    exact h.of_unnamed (h.unnamed_of_state record (by rw [held]; exact nofun)) (by rw [sweepOut_frame]; rfl)
      (by rw [sweepOut_frame]; rfl) fun q ne => by rw [sweepOut_record, if_neg ne]; rfl
  | expire id p => exact h.expireEntry id p
  | classed | retestRev => rw [State.modCounts, State.modBank_frame]; exact h
  | gradeSweep p r w record measuring unnamed | retest p r w k record measuring unnamed
  | hold p r w cls record measuring unnamed => exact h.setRecord unnamed _
  | pass p r record waits =>
    refine h.setRecord (h.unnamed_of_state record ?_) _
    rcases waits with state | state <;> rw [state] <;> exact nofun
  | gradeBin p r w b o record measuring unnamed =>
    refine PortsOk.setRecord (s := grant s b) (by rw [grant_frame]; exact h) ?_ _
    rw [grant_frame]
    exact unnamed
  | sample v =>
    rcases Nat.lt_or_ge s.drm.config.alarmLimit v.natAbs with beyond | within
    · rw [sampleArrival_of_beyond beyond]
      exact PortsOk.tripTrigger (s := ((s.modDrm fun d => d.sampled v).modDrm fun d => { d with latch := true }).raise .driftAlarm) h _
    · rw [sampleArrival_of_within within]; exact h
  | trigger id p r x record measuring unnamed online room =>
    refine h.modPort ((law id).triggered ?_ unnamed online room x) fun fitted => fitted
    rw [isMeasuring_of_some record, decide_eq_true measuring]
  | listen id f alike =>
    exact h.modPort ((law id).of_same alike.state alike.entries alike.timer) fun fitted => alike.state ▸ fitted
  | skip id p =>
    exact h.of_face (by rw [modPart_frame]) (by rw [modPart_frame])
      (State.face_modPart s p fun r => r.setResult_face id .skipped)
  | answerTaken id f => exact h.matchFrame id f
  | arrive home contact convalid =>
    exact h.of_face (by rw [arrive_frame]) (by rw [arrive_frame]) (arrive_face home contact convalid s)
  | create st refsel _ empty =>
    have unnamed : Unnamed s (pocketAt s 0) := h.unnamed (by rw [isMeasuring, empty]; rfl)
    exact h.of_unnamed unnamed (by rw [createRecord_frame]) (by rw [createRecord_frame])
      fun q ne => by rw [createRecord_record, if_neg ne]
  | productLoad => rw [productLoad_frame]; exact h
  | complete => rw [completionTest_frame]; exact h
  | bankReturn => rw [bankReturn_frame]; exact h
  | owner _ op _ owned => exact h.owner owned
  | _ => exact h

/-- Settles O55: the release finds no entries, for the ports stand at their reset values while reset is held. -/
theorem portsLawIsKept : Obligations.PortsLawIsKept := by
  unfold Obligations.PortsLawIsKept
  intro s t heldOk ports stepped
  refine step_keeps (P := PortsOk) (fun c a b => PortsOk.change) (fun a rest ha => ha) ?time ?reset ?release stepped ports
  case time =>
    intro a ha
    obtain ⟨portA, portB, fitted⟩ := ha
    rw [passTime_eq]
    exact ⟨PortLaw.aged portA, PortLaw.aged portB, fitted⟩
  case reset =>
    intro por record count a ha
    obtain ⟨-, -, fitted⟩ := ha
    exact ⟨PortLaw.of_empty rfl rfl, PortLaw.of_empty rfl rfl, fitted⟩
  case release =>
    intro held pins rest
    obtain ⟨-, -, portA, portB, -⟩ := heldOk held
    refine ⟨PortLaw.of_empty ?_ ?_, PortLaw.of_empty ?_ ?_, nofun⟩
    · exact (congrArg MeterPort.entries portA)
    · exact (congrArg MeterPort.timer portA)
    · exact (congrArg MeterPort.entries portB)
    · exact (congrArg MeterPort.timer portB)

end Sys2Proof.Machine
end

section
/-! PROOF. The banks' law (R81, Table 5.2), the lot balance (R104) and the retest law (R101) are kept by every step: a
record's tag is counted from its load to its departure, and only STANDBY banks are written. -/

namespace Sys2Proof.Machine

/-! ## The laws of one bank -/

/-- A bank's law for the bank, the other bank's state and the number of occupied pockets with its tag. -/
def BankLaw (k : Bank) (other : BankState) (tagged : Nat) : Prop :=
  k.onRing = tagged ∧ (k.state = .standby → k.onRing = 0) ∧ (k.state = .draining → 0 < k.onRing ∧ other = .active)

/-- A bank's lot balance. -/
def Bank.Balances (k : Bank) : Prop :=
  k.counts.loaded = k.counts.exits.toList.sum + k.counts.cleared + BitVec.ofNat 32 k.onRing

/-- Whether a record has a bank's tag. -/
def Part.taggedBy (k : BankId) (r : Part) : Bool := r.tag == some k

/-- A record whose retests are within the limit of its bank. -/
def Part.WithinLimit (s : State) (r : Part) : Prop := ∀ k, r.tag = some k → r.retests ≤ (s.bank k).lot.retestLimit

theorem banksOk_iff (s : State) :
    BanksOk s ↔
      (∀ k, BankLaw (s.bank k) (s.bank (otherBank k)).state (s.tally (Part.taggedBy k))) ∧
        ¬(s.bankA.state = .active ∧ s.bankB.state = .active) ∧ (s.ptk.opState = .run → (activeBank s).isSome = true) :=
  ⟨fun ⟨a, b, rest⟩ => ⟨fun | .a => a | .b => b, rest⟩, fun ⟨both, rest⟩ => ⟨both .a, both .b, rest⟩⟩

theorem retestsOk_iff (s : State) : RetestsOk s ↔ ∀ p r, s.record p = some r → r.WithinLimit s := by
  refine forall_congr' fun p => ?_
  rcases s.record p with _ | r
  · simp
  · simp [Part.WithinLimit, Option.all_eq_true]

theorem RetestsOk.of_lots {s t : State} (h : RetestsOk s) (records : t.ptk.records = s.ptk.records)
    (lot : ∀ k, (t.bank k).lot = (s.bank k).lot) : RetestsOk t :=
  (retestsOk_iff t).mpr fun p r record k tag => by
    rw [State.record, records] at record
    rw [lot]
    exact (retestsOk_iff s).mp h p r record k tag

theorem activeBank_eq_some {s : State} {k : BankId} (h : activeBank s = some k) : (s.bank k).state = .active := by
  unfold activeBank at h
  split at h
  next active => cases h; exact active
  next =>
    split at h
    next active => cases h; exact active
    next => cases h

/-- The banks' law, with the lot balance of the banks in `lots` and, where asked, the retest law. -/
def BankLaws (lots : BankId → Prop) (retests : Prop) (s : State) : Prop :=
  BanksOk s ∧ (∀ k, lots k → (s.bank k).Balances) ∧ (retests → RetestsOk s)

section
variable {lots : BankId → Prop} {retests : Prop} {s t : State}

theorem State.bank_of_banks (bankA : t.bankA = s.bankA) (bankB : t.bankB = s.bankB) (k : BankId) : t.bank k = s.bank k := by
  cases k with
  | a => exact bankA
  | b => exact bankB

theorem activeBank_of_banks (bankA : t.bankA = s.bankA) (bankB : t.bankB = s.bankB) : activeBank t = activeBank s := by
  unfold activeBank; rw [bankA, bankB]

/-- A state with the same banks and the same tags, whose records are within their limits. -/
theorem BankLaws.of_same (h : BankLaws lots retests s) (bankA : t.bankA = s.bankA) (bankB : t.bankB = s.bankB)
    (run : t.ptk.opState = .run → s.ptk.opState = .run)
    (tagged : ∀ k, t.tally (Part.taggedBy k) = s.tally (Part.taggedBy k))
    (within : RetestsOk s → ∀ p r, t.record p = some r → r.WithinLimit s) : BankLaws lots retests t := by
  have bank := State.bank_of_banks bankA bankB
  obtain ⟨banks, lot, retest⟩ := h
  obtain ⟨law, one, running⟩ := (banksOk_iff s).mp banks
  refine ⟨(banksOk_iff t).mpr ⟨fun k => ?_, ?_, fun runs => ?_⟩, fun k asked => ?_, fun asked => ?_⟩
  · rw [bank, bank, tagged]; exact law k
  · rw [bankA, bankB]; exact one
  · rw [activeBank_of_banks bankA bankB]; exact running (run runs)
  · rw [bank]; exact lot k asked
  · refine (retestsOk_iff t).mpr fun p r record k tag => ?_
    rw [bank]
    exact within (retest asked) p r record k tag

theorem BankLaws.of_face (h : BankLaws lots retests s) (bankA : t.bankA = s.bankA) (bankB : t.bankB = s.bankB)
    (run : t.ptk.opState = .run → s.ptk.opState = .run) (face : t.face = s.face) : BankLaws lots retests t := by
  refine h.of_same bankA bankB run (fun k => State.tally_of_face face fun _ => rfl) fun ok p r record => ?_
  have seen : t.face p = some r.face := by rw [State.face, record]; rfl
  rw [face] at seen
  obtain ⟨r', before, same⟩ := Option.map_eq_some_iff.mp seen
  have tag : r'.tag = r.tag := show r'.face.tag = r.face.tag from congrArg Part.tag same
  have count : r'.retests = r.retests := show r'.face.retests = r.face.retests from congrArg Part.retests same
  intro k tagged
  rw [← count]
  exact (retestsOk_iff s).mp ok p r' before k (tag.trans tagged)

/-- A record replaced by one of the same tag that is within its limit. -/
theorem BankLaws.setRecord (h : BankLaws lots retests s) {p : PocketNo} {r w : Part} (record : s.record p = some r)
    (tag : w.tag = r.tag) (within : r.WithinLimit s → w.WithinLimit s) : BankLaws lots retests (s.setRecord p (some w)) := by
  refine h.of_same rfl rfl id (fun k => ?_) fun ok q x found => ?_
  · exact State.tally_setRecord_same record (by simp only [Part.taggedBy, tag])
  · by_cases same : p = q
    · subst same
      rw [State.record_setRecord_same] at found
      cases found
      exact within ((retestsOk_iff s).mp ok p r record)
    · rw [State.record_setRecord_ne s same] at found
      exact (retestsOk_iff s).mp ok q x found

theorem Part.Same.withinLimit {r w : Part} (same : r.Same w) (count : w.retests = r.retests) (within : r.WithinLimit s) :
    w.WithinLimit s := fun k tag => count ▸ within k (same.tag ▸ tag)

theorem BankLaws.strike (move : Strike s t) (h : BankLaws lots retests s) : BankLaws lots retests t := by
  cases move with
  | binned p r w b record _ struck =>
    exact BankLaws.setRecord (s := release s b) (by rw [release_frame]; exact h) (by rw [release_frame]; exact record)
      struck.tag (struck.withinLimit struck.retests)
  | held p r w record _ struck =>
    exact BankLaws.setRecord (s := dropHold s p) h record struck.tag (struck.withinLimit struck.retests)
  | measured p r w record _ struck =>
    exact BankLaws.setRecord (s := { s with portA := s.portA.lose p, portB := s.portB.lose p }) h record struck.tag
      (struck.withinLimit struck.retests)
  | plain p r w record _ _ _ struck => exact h.setRecord record struck.tag (struck.withinLimit struck.retests)

theorem BankLaws.tripTrigger (h : BankLaws lots retests s) (c : Cause) : BankLaws lots retests (tripTrigger s c) :=
  tripTrigger_keeps (fun _ _ => BankLaws.strike) (fun _ _ ha => ha) (h.of_face rfl rfl nofun rfl)

/-- A bank whose counts change but for loaded, exits and cleared. -/
theorem BankLaws.modCounts (h : BankLaws lots retests s) (k : BankId) {f : LotCounts → LotCounts}
    (kept : ∀ n, (f n).loaded = n.loaded ∧ (f n).exits = n.exits ∧ (f n).cleared = n.cleared) :
    BankLaws lots retests (s.modCounts k f) := by
  obtain ⟨⟨a, b, one, running⟩, lot, retest⟩ := h
  have limits (asked : retests) : RetestsOk (s.modCounts k f) :=
    (retest asked).of_lots (by rw [State.modCounts, State.modBank_ptk]) fun j => by cases k <;> cases j <;> rfl
  have balance (n : Bank) (balances : n.Balances) : ({ n with counts := f n.counts } : Bank).Balances := by
    obtain ⟨loaded, exits, cleared⟩ := kept n.counts
    unfold Bank.Balances
    rw [loaded, exits, cleared]
    exact balances
  cases k with
  | a =>
    refine ⟨⟨a, b, one, running⟩, fun j asked => ?_, limits⟩
    cases j with
    | a => exact balance _ (lot .a asked)
    | b => exact lot .b asked
  | b =>
    refine ⟨⟨a, b, one, running⟩, fun j asked => ?_, limits⟩
    cases j with
    | a => exact lot .a asked
    | b => exact balance _ (lot .b asked)

/-! ## Loads -/

theorem bank_createRecord (p : PocketNo) (st : PartState) (tag : Option BankId) (refsel : Bool) (k : BankId) :
    (createRecord s p st tag refsel).bank k =
      if tag = some k then
        { s.bank k with
          onRing := (s.bank k).onRing + 1
          counts := { (s.bank k).counts with loaded := (s.bank k).counts.loaded + 1 } }
      else s.bank k := by
  rcases tag with _ | (_ | _) <;> cases k <;> rfl

theorem bank_state_createRecord (p : PocketNo) (st : PartState) (tag : Option BankId) (refsel : Bool) (k : BankId) :
    ((createRecord s p st tag refsel).bank k).state = (s.bank k).state := by
  rw [bank_createRecord]; split <;> rfl

theorem tally_createRecord {p : PocketNo} (empty : s.record p = none) (st : PartState) (tag : Option BankId) (refsel : Bool)
    (k : BankId) :
    (createRecord s p st tag refsel).tally (Part.taggedBy k) =
      s.tally (Part.taggedBy k) + if tag = some k then 1 else 0 := by
  have counted := s.tally_setRecord p (some (newPart s st tag refsel)) (Part.taggedBy k)
  have same : (createRecord s p st tag refsel).tally (Part.taggedBy k) =
      (s.setRecord p (some (newPart s st tag refsel))).tally (Part.taggedBy k) :=
    State.tally_of_records (by rw [createRecord_frame]; rfl) _
  rw [empty, Option.any_none, Bool.toNat_false, Nat.add_zero] at counted
  rw [same, counted]
  by_cases tagged : tag = some k <;> simp [newPart, Part.taggedBy, tagged]

theorem BankLaws.createRecord (h : BankLaws lots retests s) {p : PocketNo} (empty : s.record p = none) (st : PartState)
    (refsel : Bool) : BankLaws lots retests (createRecord s p st (activeBank s) refsel) := by
  obtain ⟨banks, lot, retest⟩ := h
  obtain ⟨law, one, running⟩ := (banksOk_iff s).mp banks
  have state := bank_state_createRecord (s := s) p st (activeBank s) refsel
  refine ⟨(banksOk_iff _).mpr ⟨fun k => ?_, ?_, fun runs => ?_⟩, fun k asked => ?_, fun asked => ?_⟩
  · rw [state, tally_createRecord empty, bank_createRecord]
    obtain ⟨count, standby, draining⟩ := law k
    split
    next tagged =>
      have active := activeBank_eq_some tagged
      refine ⟨?_, fun state => ?_, fun state => ?_⟩
      · simp only [count]
      · rw [active] at state; cases state
      · rw [active] at state; cases state
    next => exact ⟨count, standby, draining⟩
  · have a := state .a
    have b := state .b
    simp only [State.bank] at a b
    rw [a, b]
    exact one
  · have some_active := running (by rw [createRecord_frame] at runs; exact runs)
    rw [activeBank_isSome_iff] at some_active ⊢
    exact some_active.imp ((state .a).trans ·) ((state .b).trans ·)
  · rw [bank_createRecord]
    split
    · have balances : (s.bank k).counts.loaded = _ := lot k asked
      unfold Bank.Balances
      rw [BitVec.ofNat_add, ← BitVec.add_assoc, ← balances]
      rfl
    · exact lot k asked
  · refine (retestsOk_iff _).mpr fun q r found k tag => ?_
    have limit : ((Machine.createRecord s p st (activeBank s) refsel).bank k).lot = (s.bank k).lot := by
      rw [bank_createRecord]; split <;> rfl
    rw [createRecord_record] at found
    split at found
    next => cases found; exact Nat.zero_le _
    next => rw [limit]; exact (retestsOk_iff s).mp (retest asked) q r found k tag

/-! ## Departures -/

theorem bank_departure (tag : Option BankId) (k : BankId) :
    (departure s tag).bank k =
      if tag = some k then
        { s.bank k with
          onRing := (s.bank k).onRing - 1
          state := if (s.bank k).state = .draining ∧ (s.bank k).onRing - 1 = 0 then .standby else (s.bank k).state }
      else s.bank k := by
  rcases tag with _ | j
  · rfl
  · by_cases same : j = k
    · subst same
      rw [if_pos rfl]
      unfold departure
      dsimp only
      split
      · cases j <;> rfl
      · cases j <;> rfl
    · have other : k = otherBank j := by cases j <;> cases k <;> first | rfl | exact absurd rfl same
      rw [if_neg fun e => same (Option.some.inj e), other]
      exact departure_bank_other s j

/-- What a report at a part's exit or clearing makes of a state: one part more is counted out in the bank of its tag. -/
structure CountedOut (r : Part) (s u : State) : Prop where
  records : u.ptk.records = s.ptk.records
  opState : u.ptk.opState = s.ptk.opState
  state : ∀ k, (u.bank k).state = (s.bank k).state
  lot : ∀ k, (u.bank k).lot = (s.bank k).lot
  onRing : ∀ k, (u.bank k).onRing = (s.bank k).onRing
  loaded : ∀ k, (u.bank k).counts.loaded = (s.bank k).counts.loaded
  out : ∀ k, (u.bank k).counts.exits.toList.sum + (u.bank k).counts.cleared =
    (s.bank k).counts.exits.toList.sum + (s.bank k).counts.cleared + if r.tag = some k then 1 else 0

/-- A part counted out of its bank leaves the ring (R6, R104). -/
theorem BankLaws.emptyPocket {u : State} (h : BankLaws lots retests s) {p : PocketNo} {r : Part}
    (record : s.record p = some r) (counted : CountedOut r s u) : BankLaws lots retests (emptyPocket u p) := by
  obtain ⟨banks, lot, retest⟩ := h
  obtain ⟨law, one, running⟩ := (banksOk_iff s).mp banks
  have there : u.record p = some r := by rw [State.record, counted.records]; exact record
  have bank (k : BankId) : (Machine.emptyPocket u p).bank k = _ := (emptyPocket_bank there k).trans (bank_departure r.tag k)
  have tally (k : BankId) : (Machine.emptyPocket u p).tally (Part.taggedBy k) + (if r.tag = some k then 1 else 0) =
      s.tally (Part.taggedBy k) := by
    have removed := u.tally_setRecord p none (Part.taggedBy k)
    rw [there, State.tally_of_records counted.records] at removed
    rw [emptyPocket_tally]
    by_cases tagged : r.tag = some k <;> simpa [Part.taggedBy, beq_eq_decide, tagged] using removed
  have active (k : BankId) : ((Machine.emptyPocket u p).bank k).state = .active ↔ (s.bank k).state = .active := by
    rw [bank, counted.state]
    split
    · dsimp only
      split
      next drained => simp [drained.1]
      next => rfl
    · rw [counted.state]
  refine ⟨(banksOk_iff _).mpr ⟨fun k => ?_, fun both => one ⟨(active .a).mp both.1, (active .b).mp both.2⟩, fun runs => ?_⟩,
    fun k asked => ?_, fun asked => ?_⟩
  · obtain ⟨count, standby, draining⟩ := law k
    have counts := tally k
    refine ⟨?_, fun state => ?_, fun state => ?_⟩
    · rw [bank]
      split
      next tagged => rw [if_pos tagged] at counts; simp only [counted.onRing]; omega
      next other => rw [if_neg other] at counts; rw [counted.onRing, count, ← counts, Nat.add_zero]
    · rw [bank] at state ⊢
      split at state
      next tagged =>
        rw [if_pos tagged]
        dsimp only at state ⊢
        split at state
        next drained => exact drained.2
        next => rw [counted.onRing, standby (counted.state k ▸ state)]
      next other => rw [if_neg other, counted.onRing]; exact standby (counted.state k ▸ state)
    · have was : (s.bank k).state = .draining := by
        rw [bank] at state
        split at state
        · dsimp only at state
          split at state
          · cases state
          · rwa [counted.state] at state
        · rwa [counted.state] at state
      refine ⟨?_, (active (otherBank k)).mpr (draining was).2⟩
      rw [bank] at state ⊢
      split at state
      next tagged =>
        rw [if_pos tagged]
        dsimp only at state ⊢
        split at state
        · cases state
        next kept =>
          have := mt (fun empty => (⟨(counted.state k).trans was, empty⟩ : _ ∧ _)) kept
          omega
      next other => rw [if_neg other, counted.onRing]; exact (draining was).1
  · have same : (Machine.emptyPocket u p).ptk.opState = u.ptk.opState := by rw [emptyPocket_frame]
    have some_active := running (by rw [← counted.opState, ← same]; exact runs)
    rw [activeBank_isSome_iff] at some_active ⊢
    exact some_active.imp (active .a).mpr (active .b).mpr
  · obtain ⟨count, -, -⟩ := law k
    have balances : (s.bank k).counts.loaded = _ := lot k asked
    have out := counted.out k
    have counts := tally k
    unfold Bank.Balances
    rw [bank]
    split
    next tagged =>
      rw [if_pos tagged] at out counts
      dsimp only
      rw [counted.loaded, balances, out, counted.onRing, BitVec.add_assoc _ 1, BitVec.add_comm 1]
      have more : (s.bank k).onRing = (s.bank k).onRing - 1 + 1 := by omega
      conv_lhs => rw [more, BitVec.ofNat_add]
      rfl
    next other =>
      rw [if_neg other, show (0 : Count32) = 0#32 from rfl, BitVec.add_zero] at out
      rw [counted.loaded, balances, out, counted.onRing]
  · refine (retestsOk_iff _).mpr fun q x found k tag => ?_
    have limit : ((Machine.emptyPocket u p).bank k).lot = (s.bank k).lot := by
      rw [bank, ← counted.lot]; split <;> rfl
    rw [limit]
    by_cases same : q = p
    · rw [same, emptyPocket_record_self] at found; cases found
    · rw [emptyPocket_record_ne u same, State.record, counted.records] at found
      exact (retestsOk_iff s).mp (retest asked) q x found k tag

/-- One element of a list raised by one raises the sum by one. -/
theorem sum_set_add_one (l : List Count32) (i : Nat) (h : i < l.length) : (l.set i (l[i] + 1)).sum = l.sum + 1 := by
  induction l generalizing i with
  | nil => cases h
  | cons x l ih =>
    cases i with
    | zero => simp only [List.set_cons_zero, List.getElem_cons_zero, List.sum_cons, BitVec.add_assoc, BitVec.add_comm 1]
    | succ i => simp only [List.set_cons_succ, List.getElem_cons_succ, List.sum_cons, ih i (Nat.lt_of_succ_lt_succ h), BitVec.add_assoc]

theorem exits_exited (n : LotCounts) (k : Bank) (r : Part) (l : Line) :
    (n.exited k r l).exits.toList.sum = n.exits.toList.sum + 1 := by
  have raised := sum_set_add_one n.exits.toList l.val (by simp)
  simpa [LotCounts.exited, Vector.toList_set] using raised

theorem countedOut_exitReport (r : Part) (l : Line) : CountedOut r s (exitReport s r l) := by
  have bank (k : BankId) : (exitReport s r l).bank k =
      if r.tag = some k then { s.bank k with counts := (s.bank k).counts.exited (s.bank k) r l } else s.bank k := by
    unfold exitReport
    rcases r.tag with _ | (_ | _) <;> cases k <;> rfl
  constructor
  case records => rw [exitReport_frame]
  case opState => rw [exitReport_frame]
  case out =>
    intro k
    rw [bank]
    split
    · rw [exits_exited]
      simp only [LotCounts.exited, BitVec.add_assoc, BitVec.add_comm 1]
    · exact (BitVec.add_zero _).symm
  all_goals
    intro k
    rw [bank]
    split <;> rfl

theorem countedOut_clearedReport (r : Part) : CountedOut r s (clearedReport s r.tag) := by
  have bank (k : BankId) : (clearedReport s r.tag).bank k =
      if r.tag = some k then
        { s.bank k with counts := { (s.bank k).counts with cleared := (s.bank k).counts.cleared + 1 } }
      else s.bank k := by
    unfold clearedReport
    rcases r.tag with _ | (_ | _) <;> cases k <;> rfl
  constructor
  case records => rw [clearedReport_frame]
  case opState => rw [clearedReport_frame]
  case out =>
    intro k
    rw [bank]
    split
    · simp only [BitVec.add_assoc]
    · exact (BitVec.add_zero _).symm
  all_goals
    intro k
    rw [bank]
    split <;> rfl

/-- Releases and pulses change nothing of what a bank counts. -/
theorem CountedOut.of_frame {r : Part} {u v : State} (h : CountedOut r s u) (ptk : v.ptk = u.ptk)
    (bankA : v.bankA = u.bankA) (bankB : v.bankB = u.bankB) : CountedOut r s v := by
  have bank := State.bank_of_banks bankA bankB
  obtain ⟨records, opState, state, lot, onRing, loaded, out⟩ := h
  constructor
  case records => rw [ptk]; exact records
  case opState => rw [ptk]; exact opState
  all_goals intro k; rw [bank]
  case state => exact state k
  case lot => exact lot k
  case onRing => exact onRing k
  case loaded => exact loaded k
  case out => exact out k

theorem BankLaws.clearPocket (h : BankLaws lots retests s) (p : PocketNo) : BankLaws lots retests (clearPocket s p) := by
  rcases record : s.record p with _ | r
  · rw [clearPocket_of_none record]; exact h
  · rw [clearPocket_of_some record]
    refine h.emptyPocket record ((countedOut_clearedReport r).of_frame ?_ ?_ ?_) <;> rw [clearRelease_frame]

theorem BankLaws.fired (h : BankLaws lots retests s) {p : PocketNo} {r : Part} (record : s.record p = some r) (b : SortBin) :
    BankLaws lots retests (firePocket s p r b) := by
  have fired : BankLaws lots retests (fireReport (startPulse s (lineOf b)) b) := by
    rw [fireReport_frame, startPulse_frame]; exact h
  exact fired.emptyPocket (by rw [fireReport_frame, startPulse_frame]; exact record) (countedOut_exitReport r _)

theorem BankLaws.swept (h : BankLaws lots retests s) (p : PocketNo) : BankLaws lots retests (sweepOut s p) := by
  rcases record : s.record p with _ | r
  · rw [show sweepOut s p = s by simp only [sweepOut, record]]; exact h
  · have pulsed : BankLaws lots retests (startPulse s 0) := by rw [startPulse_frame]; exact h
    rw [sweepOut_of_some record]
    exact pulsed.emptyPocket (by rw [startPulse_frame]; exact record) (countedOut_exitReport r 0)

/-! ## Requests -/

/-- Under the law no DRAINING bank waits with nothing on the ring. -/
theorem BankLaws.bankReturn_eq (h : BankLaws lots retests s) (k : BankId) : bankReturn s k = s := by
  obtain ⟨-, -, draining⟩ := ((banksOk_iff s).mp h.1).1 k
  refine if_neg fun empty => ?_
  have := (draining empty.1).1
  omega

/-- A write to a STANDBY bank, which no record is tagged with. -/
theorem BankLaws.write (h : BankLaws lots retests s) {k : BankId} {f : Bank → Bank} (standby : (s.bank k).state = .standby)
    (state : (f (s.bank k)).state = (s.bank k).state) (onRing : (f (s.bank k)).onRing = (s.bank k).onRing)
    (counts : (f (s.bank k)).counts = (s.bank k).counts) : BankLaws lots retests (s.modBank k f) := by
  obtain ⟨banks, lot, retest⟩ := h
  obtain ⟨law, one, running⟩ := (banksOk_iff s).mp banks
  have same_state (j : BankId) : ((s.modBank k f).bank j).state = (s.bank j).state := by
    cases k <;> cases j <;> first | rfl | exact state
  have same_count (j : BankId) : ((s.modBank k f).bank j).onRing = (s.bank j).onRing := by
    cases k <;> cases j <;> first | rfl | exact onRing
  have same_counts (j : BankId) : ((s.modBank k f).bank j).counts = (s.bank j).counts := by
    cases k <;> cases j <;> first | rfl | exact counts
  have tally (j : BankId) : (s.modBank k f).tally (Part.taggedBy j) = s.tally (Part.taggedBy j) :=
    State.tally_of_records (by rw [State.modBank_ptk]) _
  refine ⟨(banksOk_iff _).mpr ⟨fun j => ?_, ?_, fun runs => ?_⟩, fun j asked => ?_, fun asked => ?_⟩
  · unfold BankLaw
    rw [same_state, same_state, same_count, tally]
    exact law j
  · have a := same_state .a
    have b := same_state .b
    simp only [State.bank] at a b
    rw [a, b]
    exact one
  · have some_active := running (by rw [State.modBank_ptk] at runs; exact runs)
    rw [activeBank_isSome_iff] at some_active ⊢
    exact some_active.imp ((same_state .a).trans ·) ((same_state .b).trans ·)
  · unfold Bank.Balances
    rw [same_counts, same_count]
    exact lot j asked
  · refine (retestsOk_iff _).mpr fun p r record j tag => ?_
    rw [State.record_modBank] at record
    have ne : j ≠ k := fun same => by
      obtain ⟨count, empty, -⟩ := law k
      have counted := State.tally_pos record (test := Part.taggedBy k) (by simp [Part.taggedBy, tag, same])
      rw [← count, empty standby] at counted
      cases counted
    have other : (s.modBank k f).bank j = s.bank j := by
      cases k <;> cases j <;> first | rfl | exact absurd rfl ne
    rw [other]
    exact (retestsOk_iff s).mp (retest asked) p r record j tag

theorem bank_switchTo (k j : BankId) :
    (switchTo s k).bank j = if j = k then { s.bank k with state := .active } else (s.bank j).replaced := by
  cases k <;> cases j <;> rfl

/-- The switch: the other bank drains or is STANDBY, for it was not draining (R93). -/
theorem BankLaws.switchTo (h : BankLaws lots retests s) {k : BankId} (other : (s.bank (otherBank k)).state ≠ .draining) :
    BankLaws lots retests (switchTo s k) := by
  obtain ⟨banks, lot, retest⟩ := h
  obtain ⟨law, -, -⟩ := (banksOk_iff s).mp banks
  have ne : otherBank k ≠ k := by cases k <;> exact nofun
  have active : ((Machine.switchTo s k).bank k).state = .active := by rw [bank_switchTo, if_pos rfl]
  have replaced : (Machine.switchTo s k).bank (otherBank k) = (s.bank (otherBank k)).replaced := by
    rw [bank_switchTo, if_neg ne]
  have inactive : ((s.bank (otherBank k)).replaced).state ≠ .active := by
    unfold Bank.replaced
    split
    · dsimp only; split <;> exact nofun
    next not_active => exact not_active
  have kept (j : BankId) : ((Machine.switchTo s k).bank j).onRing = (s.bank j).onRing ∧
      ((Machine.switchTo s k).bank j).counts = (s.bank j).counts ∧ ((Machine.switchTo s k).bank j).lot = (s.bank j).lot := by
    rw [bank_switchTo]
    split
    next same => subst same; exact ⟨rfl, rfl, rfl⟩
    next => unfold Bank.replaced; split <;> exact ⟨rfl, rfl, rfl⟩
  have tally (j : BankId) : (Machine.switchTo s k).tally (Part.taggedBy j) = s.tally (Part.taggedBy j) :=
    State.tally_of_records (by rw [switchTo_frame]) _
  have own : BankLaw ((Machine.switchTo s k).bank k) ((Machine.switchTo s k).bank (otherBank k)).state
      ((Machine.switchTo s k).tally (Part.taggedBy k)) := by
    refine ⟨by rw [(kept k).1, tally]; exact (law k).1, fun state => ?_, fun state => ?_⟩ <;>
      rw [active] at state <;> cases state
  have others : BankLaw ((Machine.switchTo s k).bank (otherBank k)) ((Machine.switchTo s k).bank k).state
      ((Machine.switchTo s k).tally (Part.taggedBy (otherBank k))) := by
    obtain ⟨count, standby, -⟩ := law (otherBank k)
    refine ⟨by rw [(kept _).1, tally]; exact count, fun state => ?_, fun state => ?_⟩
    · rw [(kept _).1]
      rw [replaced, Bank.replaced] at state
      split at state
      · dsimp only at state
        split at state
        next empty => exact empty
        next => cases state
      next => exact standby state
    · refine ⟨?_, active⟩
      rw [(kept _).1]
      rw [replaced, Bank.replaced] at state
      split at state
      · dsimp only at state
        split at state
        · cases state
        next occupied => exact Nat.pos_of_ne_zero occupied
      next => exact absurd state other
  refine ⟨(banksOk_iff _).mpr ⟨fun j => ?_, ?_, fun _ => ?_⟩, fun j asked => ?_, fun asked => ?_⟩
  · cases k <;> cases j <;> first | exact own | exact others
  · rw [← replaced] at inactive
    cases k with
    | a => exact fun both => inactive both.2
    | b => exact fun both => inactive both.1
  · rw [activeBank_isSome_iff]
    cases k with
    | a => exact .inl active
    | b => exact .inr active
  · unfold Bank.Balances
    rw [(kept j).1, (kept j).2.1]
    exact lot j asked
  · exact (retest asked).of_lots (by rw [switchTo_frame]) fun j => (kept j).2.2

/-- The counters of a STANDBY bank set to 0: nothing of it is on the ring (R93). -/
theorem BankLaws.zeroed (h : BankLaws lots retests s) {k : BankId} (standby : (s.bank k).state = .standby) :
    BankLaws lots retests (s.modCounts k fun _ => .zero) := by
  obtain ⟨⟨a, b, one, running⟩, lot, retest⟩ := h
  have limits (asked : retests) : RetestsOk (s.modCounts k fun _ => .zero) :=
    (retest asked).of_lots (by rw [State.modCounts, State.modBank_ptk]) fun j => by cases k <;> cases j <;> rfl
  have zero (n : Bank) (empty : n.onRing = 0) : ({ n with counts := .zero } : Bank).Balances := by
    unfold Bank.Balances
    simp only [empty]
    decide
  have empty : (s.bank k).onRing = 0 := by
    cases k with
    | a => exact a.2.1 standby
    | b => exact b.2.1 standby
  cases k with
  | a =>
    refine ⟨⟨a, b, one, running⟩, fun j asked => ?_, limits⟩
    cases j with
    | a => exact zero _ empty
    | b => exact lot .b asked
  | b =>
    refine ⟨⟨a, b, one, running⟩, fun j asked => ?_, limits⟩
    cases j with
    | a => exact lot .a asked
    | b => exact zero _ empty

theorem BankLaws.owner {op : Byte} (move : OwnerChange op s t) (h : BankLaws lots retests s) : BankLaws lots retests t := by
  have law (k : BankId) := ((banksOk_iff s).mp h.1).1 k
  cases move with
  | verdictSweep _ p r record => exact h.setRecord record rfl id
  | verdictBin _ p r b o record =>
    exact BankLaws.setRecord (s := grant s b) (by rw [grant_frame]; exact h) ((record_grant s b p).trans record) rfl id
  | verdictRetest _ p r k record held tag below =>
    refine h.setRecord record rfl fun _ j tagged => ?_
    have same : k = j := Option.some.inj (tag.symm.trans tagged)
    exact same ▸ below
  | start _ idle active =>
    obtain ⟨⟨a, b, one, -⟩, lot, retest⟩ := h
    exact ⟨⟨a, b, one, fun _ => active⟩, lot, retest⟩
  | stop => exact h.of_face rfl rfl nofun rfl
  | clearTrip => exact h.of_face rfl rfl nofun rfl
  | clearTrack => exact clearTrack_keeps (fun a p ha => ha.clearPocket p) (fun a ha => ha) h
  | trip => exact h.tripTrigger _
  | timeout | restore => rw [State.modPort_frame]; exact h
  | write _ _ k f _ standby state onRing counts => exact h.write standby state onRing counts
  | activateDraining _ k draining =>
    obtain ⟨-, -, drains⟩ := law k
    exact h.switchTo (by rw [(drains draining).2]; exact nofun)
  | activateStandby _ k standby =>
    refine (h.zeroed standby).switchTo ?_
    rw [State.modCounts, State.bank_modBank_other]
    intro draining
    obtain ⟨-, -, drains⟩ := law (otherBank k)
    have active := (drains draining).2
    rw [show otherBank (otherBank k) = k by cases k <;> rfl, standby] at active
    cases active
  | resizeBin => rw [resizeBin_frame]; exact h
  | swapBegin => rw [beginSwap_frame]; exact h
  | _ => exact h

theorem BankLaws.change {c : Instr} (move : Change c s t) (h : BankLaws lots retests s) : BankLaws lots retests t := by
  cases move with
  | void p => exact (voidPocket_strikes s p).keeps (fun _ _ => BankLaws.strike) h
  | recirc p => exact (recircPocket_strikes s p).keeps (fun _ _ => BankLaws.strike) h
  | trip cause => exact h.tripTrigger cause
  | fault id =>
    refine h.of_face ?_ ?_ ?_ (faultPort_face s id) <;> rw [faultPort, State.modPort_frame, writeLost_frame]
    · rfl
    · rfl
    · exact fun run => run
  | endPulse l => rw [endPulse_frame]; exact h
  | drain b => rw [drainTest_frame]; exact h
  | fire p r b record => exact h.fired record b
  | sweep p => exact h.swept p
  | sweepHeld p => exact BankLaws.swept (s := dropHold s p) h p
  | expire => rw [expireEntry_frame]; exact h
  | classed k cls => exact h.modCounts k fun n => ⟨rfl, rfl, rfl⟩
  | retestRev k => exact h.modCounts k fun n => ⟨rfl, rfl, rfl⟩
  | gradeSweep p r w record _ _ same count => exact h.setRecord record same.tag (same.withinLimit count)
  | retest p r w k record _ _ same count _ tag below =>
    refine h.setRecord record same.tag fun _ j tagged => ?_
    have same : k = j := Option.some.inj (tag.symm.trans (same.tag ▸ tagged))
    rw [count]
    exact same ▸ below
  | hold p r w cls record _ _ same count => exact h.setRecord record same.tag (same.withinLimit count)
  | pass p r record => exact h.setRecord record rfl id
  | gradeBin p r w b o record _ _ same count =>
    exact BankLaws.setRecord (s := grant s b) (by rw [grant_frame]; exact h) ((record_grant s b p).trans record) same.tag
      (same.withinLimit count)
  | sample v =>
    rcases Nat.lt_or_ge s.drm.config.alarmLimit v.natAbs with beyond | within
    · rw [sampleArrival_of_beyond beyond]
      exact BankLaws.tripTrigger (s := ((s.modDrm fun d => d.sampled v).modDrm fun d => { d with latch := true }).raise .driftAlarm) h _
    · rw [sampleArrival_of_within within]; exact h
  | trigger | listen => rw [State.modPort_frame]; exact h
  | skip id p =>
    refine h.of_face ?_ ?_ ?_ (State.face_modPart s p fun r => r.setResult_face id .skipped) <;> rw [modPart_frame]
    exact fun run => run
  | answerTaken id f =>
    refine h.of_face ?_ ?_ ?_ (matchFrame_face s id f) <;> rw [matchFrame_frame]
    exact fun run => run
  | arrive home contact convalid =>
    refine h.of_face ?_ ?_ ?_ (arrive_face home contact convalid s) <;> rw [arrive_frame]
    exact fun run => run
  | create st refsel _ empty => exact h.createRecord empty st refsel
  | productLoad => rw [productLoad_frame]; exact h
  | complete => rw [completionTest_frame]; exact h
  | bankReturn k => rw [h.bankReturn_eq]; exact h
  | owner _ op _ owned => exact h.owner owned
  | _ => exact h

end

/-- Settles O56. -/
theorem banksLawAndLotBalanceAreKept : Obligations.BanksLawAndLotBalanceAreKept := by
  unfold Obligations.BanksLawAndLotBalanceAreKept
  intro s t banks stepped
  refine step_keeps (P := BankLaws (LotBalances s) (RetestsOk s)) (fun c a b => BankLaws.change) (fun a rest ha => ha)
    ?time ?reset ?release stepped ⟨banks, fun k balances => balances, id⟩
  case time => intro a ha; rw [passTime_eq]; exact ha
  case reset =>
    intro por record count a _
    have tally (k : BankId) : (resetBlocks por record count a).tally (Part.taggedBy k) = 0 := by
      simp [State.tally, State.record, resetBlocks, Ptk.reset]
    have bank (k : BankId) : (resetBlocks por record count a).bank k = .reset := by cases k <;> rfl
    refine ⟨(banksOk_iff _).mpr ⟨fun k => ?_, nofun, nofun⟩, fun k _ => ?_, fun _ p => ?_⟩
    · rw [bank, tally]; exact ⟨rfl, fun _ => rfl, nofun⟩
    · rw [bank]; unfold Bank.Balances; decide
    · simp [State.record, resetBlocks, Ptk.reset]
  case release => exact fun _ pins rest => ⟨banks, fun k balances => balances, id⟩

end Sys2Proof.Machine
end

section
/-! PROOF. The drift monitor's ranges (Tables 8.1 and 8.2) and the trip law (R150, R156, R162) are kept by every step. -/

namespace Sys2Proof.Machine

/-! ## The drift monitor -/

theorem boundOffset_range (v : Int) : -10000 ≤ boundOffset v ∧ boundOffset v ≤ 10000 := by
  unfold boundOffset
  split
  · omega
  · split <;> omega

/-- The applied offset moves toward the target and not past it (R143). -/
theorem slew_range {step : Nat} {applied target : Int} (low : -10000 ≤ applied ∧ -10000 ≤ target)
    (high : applied ≤ 10000 ∧ target ≤ 10000) : -10000 ≤ slew step applied target ∧ slew step applied target ≤ 10000 := by
  unfold slew
  split <;> omega

/-- The drift monitor's law for its own state. -/
abbrev DrmLaw (d : Drm) : Prop :=
  d.config.inRange = true ∧ -10000 ≤ d.target ∧ d.target ≤ 10000 ∧ -10000 ≤ d.applied ∧ d.applied ≤ 10000 ∧
    d.periodCount ≤ 63

theorem DrmLaw.sampled {d : Drm} (h : DrmLaw d) (v : Int) : DrmLaw (d.sampled v) := by
  obtain ⟨config, low, high, rest⟩ := h
  have bound := boundOffset_range v
  refine ⟨config, ?_, ?_, rest⟩ <;> simp only [Drm.sampled] <;> split <;> omega

theorem DrmLaw.counted {d : Drm} (h : DrmLaw d) : DrmLaw d.counted := by
  obtain ⟨config, low, high, lowApplied, highApplied, count⟩ := h
  unfold Drm.counted
  split
  · obtain ⟨slewLow, slewHigh⟩ := slew_range (step := d.config.step) ⟨lowApplied, low⟩ ⟨highApplied, high⟩
    exact ⟨config, low, high, slewLow, slewHigh, Nat.zero_le _⟩
  next noWrap =>
    simp only [Drm.wraps, decide_eq_true_eq, Nat.not_le] at noWrap
    have period : d.config.period ≤ 64 := by
      simp only [DriftConfig.inRange, Bool.and_eq_true, decide_eq_true_eq] at config
      exact config.1.1.1.1.2
    exact ⟨config, low, high, lowApplied, highApplied, by dsimp only; omega⟩

theorem productLoad_drm (s : State) :
    (productLoad s).drm =
      if s.drm.loaded.episodeBegins then { s.drm.loaded with overdueFlag := true } else s.drm.loaded := by
  unfold productLoad episodeTest
  rw [State.modDrm_drm]
  split <;> rfl

/-! ## The trip law -/

theorem TripOk.of_same {s t : State} (h : TripOk s) (opState : t.ptk.opState = s.ptk.opState)
    (causes : t.trc.causes = s.trc.causes) (complete : t.trc.complete = s.trc.complete)
    (latch : t.drm.latch = s.drm.latch) (occupied : occupiedCount s ≤ occupiedCount t) : TripOk t := by
  unfold TripOk
  rw [opState, causes, complete, latch]
  obtain ⟨tripped, latched, completed, waits⟩ := h
  exact ⟨tripped, latched, completed, fun trip open_ => Nat.lt_of_lt_of_le (waits trip open_) occupied⟩

theorem occupiedCount_of_face {s t : State} (face : t.face = s.face) : occupiedCount t = occupiedCount s := by
  rw [occupiedCount_eq_tally, occupiedCount_eq_tally]
  exact State.tally_of_face face fun _ => rfl

theorem occupiedCount_setRecord {s : State} {p : PocketNo} {r : Part} (record : s.record p = some r) (w : Part) :
    occupiedCount (s.setRecord p (some w)) = occupiedCount s := by
  rw [occupiedCount_eq_tally, occupiedCount_eq_tally]
  exact State.tally_setRecord_same record rfl

/-- What the completion test is asked to repair is its own clause of the law. -/
theorem TripOk.completionTest {s : State} (tripped : s.ptk.opState = .tripped ↔ s.trc.causes ≠ .none)
    (latched : s.drm.latch = true → s.ptk.opState = .tripped) (completed : s.trc.complete = true → s.ptk.opState = .tripped) :
    TripOk (completionTest s) := by
  unfold Machine.completionTest
  split
  next met => exact ⟨tripped, latched, fun _ => met.1, fun _ => nofun⟩
  next unmet =>
    exact ⟨tripped, latched, completed, fun trip open_ => Nat.pos_of_ne_zero fun empty => unmet ⟨trip, open_, empty⟩⟩

theorem TripOk.emptyPocket {s : State} (h : TripOk s) (p : PocketNo) : TripOk (emptyPocket s p) := by
  unfold Machine.emptyPocket
  split
  · exact h
  · obtain ⟨tripped, latched, completed, -⟩ := h
    refine .completionTest ?_ ?_ ?_ <;> rw [departure_frame]
    · exact tripped
    · exact latched
    · exact completed

theorem TripOk.clearPocket {s : State} (h : TripOk s) (p : PocketNo) : TripOk (clearPocket s p) := by
  rcases record : s.record p with _ | r
  · rw [clearPocket_of_none record]; exact h
  · rw [clearPocket_of_some record]
    refine TripOk.emptyPocket ?_ p
    rw [clearRelease_frame, clearedReport_frame]
    exact h

theorem TripOk.fired {s : State} (h : TripOk s) (p : PocketNo) (r : Part) (b : SortBin) : TripOk (firePocket s p r b) := by
  refine TripOk.emptyPocket ?_ p
  rw [exitReport_frame, fireReport_frame, startPulse_frame]
  exact h

theorem TripOk.swept {s : State} (h : TripOk s) (p : PocketNo) : TripOk (sweepOut s p) := by
  rcases record : s.record p with _ | r
  · rw [show sweepOut s p = s by simp only [sweepOut, record]]; exact h
  · rw [sweepOut_of_some record]
    refine TripOk.emptyPocket ?_ p
    rw [exitReport_frame, startPulse_frame]
    exact h

theorem TripOk.strike {s t : State} (move : Strike s t) (h : TripOk s) : TripOk t := by
  cases move with
  | binned p r w b record =>
    refine h.of_same ?_ ?_ ?_ ?_ (Nat.le_of_eq ?_) <;> rw [release_frame]
    · rfl
    · rfl
    · rfl
    · rfl
    · exact (occupiedCount_setRecord record w).symm
  | held p r w record => exact h.of_same rfl rfl rfl rfl (Nat.le_of_eq (occupiedCount_setRecord record w).symm)
  | measured p r w record => exact h.of_same rfl rfl rfl rfl (Nat.le_of_eq (occupiedCount_setRecord record w).symm)
  | plain p r w record => exact h.of_same rfl rfl rfl rfl (Nat.le_of_eq (occupiedCount_setRecord record w).symm)

/-- START and STOP move between states that are not TRIPPED. -/
theorem TripOk.setOpState {s : State} (h : TripOk s) {o : OpState} (before : s.ptk.opState ≠ .tripped)
    (after : o ≠ .tripped) : TripOk (s.setOpState o) := by
  obtain ⟨tripped, latched, completed, -⟩ := h
  exact ⟨⟨fun now => absurd now after, fun caused => absurd (tripped.mpr caused) before⟩,
    fun latch => absurd (latched latch) before, fun complete => absurd (completed complete) before,
    fun now => absurd now after⟩

theorem CauseSet.add_ne_none (c : CauseSet) (x : Cause) : c.add x ≠ .none := by
  cases x <;> simp [CauseSet.add, CauseSet.none]

/-- A trip trigger makes the trip law, whatever the state before it (R156, R162). -/
theorem TripOk.tripTrigger (s : State) (c : Cause) : TripOk (tripTrigger s c) := by
  have tripped : (Machine.tripTrigger s c).ptk.opState = .tripped := by rw [tripTrigger_frame]
  have occupied : occupiedCount (Machine.tripTrigger s c) = occupiedCount (tripAction (tripEntry s c)) := rfl
  refine ⟨⟨fun _ => ?_, fun _ => tripped⟩, fun _ => tripped, fun _ => tripped, fun _ open_ => ?_⟩
  · rw [tripTrigger_trc]; exact CauseSet.add_ne_none _ c
  · rw [tripTrigger_trc] at open_
    simp only [completeAtTrigger, Bool.or_eq_false_iff, beq_eq_false_iff_ne] at open_
    rw [occupied]
    exact Nat.pos_of_ne_zero open_.2

/-- The drift law and the trip law, each where it is asked. -/
def DriftAndTrip (drift trip : Prop) (s : State) : Prop := (drift → DriftOk s) ∧ (trip → TripOk s)

section
variable {drift trip : Prop} {s t : State}

theorem DriftAndTrip.of_same (h : DriftAndTrip drift trip s) (opState : t.ptk.opState = s.ptk.opState)
    (trc : t.trc = s.trc) (drm : t.drm = s.drm) (occupied : occupiedCount s ≤ occupiedCount t) :
    DriftAndTrip drift trip t := by
  refine ⟨fun asked => ?_, fun asked => (h.2 asked).of_same opState (by rw [trc]) (by rw [trc]) (by rw [drm]) occupied⟩
  unfold DriftOk
  rw [drm]
  exact h.1 asked

theorem DriftAndTrip.of_face (h : DriftAndTrip drift trip s) (opState : t.ptk.opState = s.ptk.opState)
    (trc : t.trc = s.trc) (drm : t.drm = s.drm) (face : t.face = s.face) : DriftAndTrip drift trip t :=
  h.of_same opState trc drm (Nat.le_of_eq (occupiedCount_of_face face).symm)

theorem DriftAndTrip.setRecord (h : DriftAndTrip drift trip s) {p : PocketNo} {r : Part} (record : s.record p = some r)
    (w : Part) : DriftAndTrip drift trip (s.setRecord p (some w)) :=
  h.of_same rfl rfl rfl (Nat.le_of_eq (occupiedCount_setRecord record w).symm)

theorem DriftAndTrip.strikes (move : Strikes s t) (drm : t.drm = s.drm) (h : DriftAndTrip drift trip s) :
    DriftAndTrip drift trip t := by
  refine ⟨fun asked => ?_, fun asked => move.keeps (fun _ _ => TripOk.strike) (h.2 asked)⟩
  unfold DriftOk
  rw [drm]
  exact h.1 asked

theorem DriftAndTrip.tripTrigger (h : drift → DriftOk s) (c : Cause) : DriftAndTrip drift trip (tripTrigger s c) := by
  refine ⟨fun asked => ?_, fun _ => .tripTrigger s c⟩
  rw [tripTrigger_frame]
  exact h asked

theorem DriftAndTrip.owner {op : Byte} (move : OwnerChange op s t) (h : DriftAndTrip drift trip s) :
    DriftAndTrip drift trip t := by
  cases move with
  | verdictSweep _ p r record => exact h.setRecord record _
  | verdictBin _ p r b o record =>
    exact DriftAndTrip.setRecord (s := grant s b) (by rw [grant_frame]; exact h) ((record_grant s b p).trans record) _
  | verdictRetest _ p r k record => exact h.setRecord record _
  | start _ idle => exact ⟨h.1, fun asked => (h.2 asked).setOpState (by rw [idle]; exact nofun) nofun⟩
  | stop _ run => exact ⟨h.1, fun asked => (h.2 asked).setOpState (by rw [run]; exact nofun) nofun⟩
  | clearTrack =>
    refine ⟨fun asked => ?_, fun asked => ?_⟩
    · rw [clearTrack_frame]; exact h.1 asked
    · exact clearTrack_keeps (fun a p ha => ha.clearPocket p) (fun a ha => ha) (h.2 asked)
  | trip => exact .tripTrigger h.1 _
  | setDrift _ c range =>
    refine ⟨fun asked => ?_, h.2⟩
    obtain ⟨-, rest⟩ := h.1 asked
    exact ⟨range, rest⟩
  | clearDrift =>
    refine ⟨h.1, fun asked => ?_⟩
    obtain ⟨tripped, -, rest⟩ := h.2 asked
    exact ⟨tripped, nofun, rest⟩
  | clearTrip _ tripped met =>
    refine ⟨h.1, fun _ => ?_⟩
    have unlatched : s.drm.latch = false := by
      simp only [conditionsUnmet, List.any_cons, Bool.or_eq_false_iff] at met
      exact met.2.2.1
    refine ⟨⟨nofun, fun caused => absurd rfl caused⟩, fun latched => ?_, nofun, nofun⟩
    exact absurd (unlatched.symm.trans latched) nofun
  | timeout | restore => rw [State.modPort_frame]; exact h
  | write => rw [State.modBank_frame]; exact h
  | activateDraining => rw [switchTo_frame]; exact h
  | activateStandby => rw [switchTo_frame, State.modCounts, State.modBank_frame]; exact h
  | resizeBin => rw [resizeBin_frame]; exact h
  | swapBegin => rw [beginSwap_frame]; exact h
  | _ => exact h

theorem DriftAndTrip.change {c : Instr} (move : Change c s t) (h : DriftAndTrip drift trip s) : DriftAndTrip drift trip t := by
  cases move with
  | void p => exact h.strikes (voidPocket_strikes s p) (by rw [voidPocket_frame])
  | recirc p => exact h.strikes (recircPocket_strikes s p) (by rw [recircPocket_frame])
  | trip cause => exact .tripTrigger h.1 cause
  | fault id =>
    refine h.of_face ?_ ?_ ?_ (faultPort_face s id) <;> rw [faultPort, State.modPort_frame, writeLost_frame] <;> rfl
  | endPulse l => rw [endPulse_frame]; exact h
  | drain b => rw [drainTest_frame]; exact h
  | fire p r b =>
    refine ⟨fun asked => ?_, fun asked => (h.2 asked).fired p r b⟩
    rw [firePocket_frame]; exact h.1 asked
  | sweep p =>
    refine ⟨fun asked => ?_, fun asked => (h.2 asked).swept p⟩
    rw [sweepOut_frame]; exact h.1 asked
  | sweepHeld p =>
    refine ⟨fun asked => ?_, fun asked => TripOk.swept (s := dropHold s p) (h.2 asked) p⟩
    rw [sweepOut_frame]; exact h.1 asked
  | expire => rw [expireEntry_frame]; exact h
  | classed | retestRev => rw [State.modCounts, State.modBank_frame]; exact h
  | gradeSweep p r w record | retest p r w k record | pass p r record => exact h.setRecord record _
  | hold p r w cls record => exact DriftAndTrip.setRecord (s := s.setHold _) h record _
  | gradeBin p r w b o record =>
    exact DriftAndTrip.setRecord (s := grant s b) (by rw [grant_frame]; exact h) ((record_grant s b p).trans record) _
  | sample v =>
    rcases Nat.lt_or_ge s.drm.config.alarmLimit v.natAbs with beyond | within
    · rw [sampleArrival_of_beyond beyond]
      exact .tripTrigger (fun asked => DrmLaw.sampled (h.1 asked) v) _
    · rw [sampleArrival_of_within within]
      exact ⟨fun asked => DrmLaw.sampled (h.1 asked) v, h.2⟩
  | trigger | listen => rw [State.modPort_frame]; exact h
  | skip id p =>
    exact h.of_face (by rw [modPart_frame]) (by rw [modPart_frame]) (by rw [modPart_frame])
      (State.face_modPart s p fun r => r.setResult_face id .skipped)
  | answerTaken id f =>
    exact h.of_face (by rw [matchFrame_frame]) (by rw [matchFrame_frame]) (by rw [matchFrame_frame]) (matchFrame_face s id f)
  | arrive home contact convalid =>
    exact h.of_face (by rw [arrive_frame]) (by rw [arrive_frame]) (by rw [arrive_frame]) (arrive_face home contact convalid s)
  | count =>
    refine ⟨fun asked => DrmLaw.counted (h.1 asked), fun asked => ?_⟩
    refine (h.2 asked).of_same rfl rfl rfl ?_ (Nat.le_refl _)
    simp only [State.modDrm_drm, Drm.counted]
    split <;> rfl
  | create st refsel _ empty =>
    have occupied : occupiedCount s ≤ occupiedCount (createRecord s (pocketAt s 0) st (activeBank s) refsel) := by
      have counted := s.tally_setRecord (pocketAt s 0) (some (newPart s st (activeBank s) refsel)) fun _ => true
      have same : (createRecord s (pocketAt s 0) st (activeBank s) refsel).tally (fun _ => true) =
          (s.setRecord (pocketAt s 0) (some (newPart s st (activeBank s) refsel))).tally fun _ => true :=
        State.tally_of_records (by rw [createRecord_frame]; rfl) _
      rw [occupiedCount_eq_tally, occupiedCount_eq_tally, same]
      simp only [empty, Option.any_none, Bool.toNat_false, Nat.add_zero] at counted
      omega
    exact h.of_same (by rw [createRecord_frame]) (by rw [createRecord_frame]) (by rw [createRecord_frame]) occupied
  | productLoad =>
    refine ⟨fun asked => ?_, fun asked => ?_⟩
    · unfold DriftOk
      rw [productLoad_drm]
      split <;> exact h.1 asked
    · refine (h.2 asked).of_same ?_ ?_ ?_ ?_ (Nat.le_of_eq ?_)
      case refine_4 => rw [productLoad_drm]; split <;> rfl
      all_goals rw [productLoad_frame] <;> rfl
  | complete =>
    refine ⟨fun asked => ?_, fun asked => ?_⟩
    · rw [completionTest_frame]; exact h.1 asked
    · obtain ⟨tripped, latched, completed, -⟩ := h.2 asked
      exact .completionTest tripped latched completed
  | bankReturn => rw [bankReturn_frame]; exact h
  | owner _ op _ owned => exact h.owner owned
  | _ => exact h

end

/-- Settles O57. -/
theorem driftAndTripLawsAreKept : Obligations.DriftAndTripLawsAreKept := by
  unfold Obligations.DriftAndTripLawsAreKept
  intro s t stepped
  refine step_keeps (P := DriftAndTrip (DriftOk s) (TripOk s)) (fun c a b => DriftAndTrip.change) (fun a rest ha => ha)
    ?time ?reset ?release stepped ⟨id, id⟩
  case time => intro a ha; rw [passTime_eq]; exact ha
  case reset =>
    intro por record count a _
    refine ⟨fun _ => ?_, fun _ => ⟨⟨nofun, fun caused => absurd rfl caused⟩, nofun, nofun, nofun⟩⟩
    simp only [DriftOk, resetBlocks]
    decide
  case release => exact fun _ pins rest => ⟨id, id⟩

end Sys2Proof.Machine
end

section
/-! PROOF. What no single change touches: the queue, the tick count, a held reset, and the link but for its own events. So
the link's law (R170, R172) and the law of a held reset (R37, R169) are kept, and every command leaves the queue. -/

namespace Sys2Proof.Machine

/-- A state with the same queue, tick count and reset level; of the link only the hold list and the flags may differ. -/
structure Still (s t : State) : Prop where
  held : t.ttp.held = s.ttp.held
  pending : t.pending = s.pending
  ticks : t.ticks = s.ticks
  svl : t.svl = { s.svl with attention := t.svl.attention, hold := t.svl.hold }

theorem tripTrigger_still (s : State) (c : Cause) : Still s (tripTrigger s c) := by
  rw [tripTrigger_frame]; exact ⟨rfl, rfl, rfl, rfl⟩

theorem OwnerChange.still {op : Byte} {s t : State} (move : OwnerChange op s t) : Still s t := by
  cases move with
  | verdictBin => rw [grant_frame]; exact ⟨rfl, rfl, rfl, rfl⟩
  | clearTrack => rw [clearTrack_frame]; exact ⟨rfl, rfl, rfl, rfl⟩
  | trip => exact tripTrigger_still s _
  | timeout | restore => rw [State.modPort_frame]; exact ⟨rfl, rfl, rfl, rfl⟩
  | write => rw [State.modBank_frame]; exact ⟨rfl, rfl, rfl, rfl⟩
  | activateDraining => rw [switchTo_frame]; exact ⟨rfl, rfl, rfl, rfl⟩
  | activateStandby => rw [switchTo_frame, State.modCounts, State.modBank_frame]; exact ⟨rfl, rfl, rfl, rfl⟩
  | resizeBin => rw [resizeBin_frame]; exact ⟨rfl, rfl, rfl, rfl⟩
  | swapBegin => rw [beginSwap_frame]; exact ⟨rfl, rfl, rfl, rfl⟩
  | _ => exact ⟨rfl, rfl, rfl, rfl⟩

/-- A single change is the link's own event, or leaves all this. -/
theorem Change.still {c : Instr} {s t : State} (move : Change c s t) :
    Still s t ∨ ∃ v, LinkChange s.svl v ∧ t = { s with svl := v } := by
  cases move with
  | link v event => exact .inr ⟨v, event, rfl⟩
  | levels t held => exact .inl ⟨held, rfl, rfl, rfl⟩
  | owner _ op _ owned => exact .inl owned.still
  | void => rw [voidPocket_frame]; exact .inl ⟨rfl, rfl, rfl, rfl⟩
  | recirc => rw [recircPocket_frame]; exact .inl ⟨rfl, rfl, rfl, rfl⟩
  | trip cause => exact .inl (tripTrigger_still s cause)
  | fault => rw [faultPort, State.modPort_frame, writeLost_frame]; exact .inl ⟨rfl, rfl, rfl, rfl⟩
  | endPulse => rw [endPulse_frame]; exact .inl ⟨rfl, rfl, rfl, rfl⟩
  | drain => rw [drainTest_frame]; exact .inl ⟨rfl, rfl, rfl, rfl⟩
  | fire => rw [firePocket_frame]; exact .inl ⟨rfl, rfl, rfl, rfl⟩
  | sweep | sweepHeld => rw [sweepOut_frame]; exact .inl ⟨rfl, rfl, rfl, rfl⟩
  | expire => rw [expireEntry_frame]; exact .inl ⟨rfl, rfl, rfl, rfl⟩
  | classed | retestRev => rw [State.modCounts, State.modBank_frame]; exact .inl ⟨rfl, rfl, rfl, rfl⟩
  | gradeBin => rw [grant_frame]; exact .inl ⟨rfl, rfl, rfl, rfl⟩
  | sample v =>
    rcases Nat.lt_or_ge s.drm.config.alarmLimit v.natAbs with beyond | within
    · obtain ⟨held, pending, ticks, svl⟩ := tripTrigger_still
        (((s.modDrm fun d => d.sampled v).modDrm fun d => { d with latch := true }).raise .driftAlarm) .drift
      rw [sampleArrival_of_beyond beyond]
      exact .inl ⟨held, pending, ticks, svl⟩
    · rw [sampleArrival_of_within within]; exact .inl ⟨rfl, rfl, rfl, rfl⟩
  | trigger | listen => rw [State.modPort_frame]; exact .inl ⟨rfl, rfl, rfl, rfl⟩
  | skip => rw [modPart_frame]; exact .inl ⟨rfl, rfl, rfl, rfl⟩
  | answerTaken => rw [matchFrame_frame]; exact .inl ⟨rfl, rfl, rfl, rfl⟩
  | arrive => rw [arrive_frame]; exact .inl ⟨rfl, rfl, rfl, rfl⟩
  | create => rw [createRecord_frame]; exact .inl ⟨rfl, rfl, rfl, rfl⟩
  | productLoad => rw [productLoad_frame]; exact .inl ⟨rfl, rfl, rfl, rfl⟩
  | complete => rw [completionTest_frame]; exact .inl ⟨rfl, rfl, rfl, rfl⟩
  | bankReturn => rw [bankReturn_frame]; exact .inl ⟨rfl, rfl, rfl, rfl⟩
  | _ => exact .inl ⟨rfl, rfl, rfl, rfl⟩

/-- The fields of the model's own, and a held reset. -/
abbrev Own (s t : State) : Prop := t.ttp.held = s.ttp.held ∧ t.pending = s.pending ∧ t.ticks = s.ticks

theorem Changes.own {c : Instr} {s t : State} (h : Changes c s t) : Own s t := by
  refine Changes.keeps (P := Own s) (fun a b move own => ?_) h ⟨rfl, rfl, rfl⟩
  obtain ⟨held, pending, ticks⟩ := own
  rcases move.still with still | ⟨v, -, rfl⟩
  · exact ⟨still.held.trans held, still.pending.trans pending, still.ticks.trans ticks⟩
  · exact ⟨held, pending, ticks⟩

/-- The link's law for the link itself. -/
abbrev SvlLaw (v : Svl) : Prop :=
  (v.outgoing = none → v.next = none ∧ v.taken = false) ∧ (v.ignoring = true → v.outgoing = none) ∧
    (v.taken = false → v.next = none)

theorem SvlLaw.move {v w : Svl} (event : LinkChange v w) (h : SvlLaw v) : SvlLaw w := by
  obtain ⟨closed, ignores, untaken⟩ := h
  cases event with
  | answer r =>
    unfold Svl.answer
    split
    next inside =>
      have open_ : v.outgoing ≠ none := Option.isSome_iff_ne_none.mp inside
      exact ⟨fun outside => absurd outside open_, ignores, nofun⟩
    next => exact ⟨closed, ignores, untaken⟩
  | start listening => exact ⟨nofun, fun ignoring => absurd (listening.symm.trans ignoring) nofun, fun _ => rfl⟩
  | nopTaken inside =>
    exact ⟨fun outside => absurd outside (Option.isSome_iff_ne_none.mp inside), ignores, nofun⟩
  | nopPending => exact ⟨closed, ignores, untaken⟩
  | rise => exact ⟨closed, nofun, untaken⟩
  | ended out clocked => exact ⟨fun _ => ⟨rfl, rfl⟩, fun _ => rfl, fun _ => rfl⟩

theorem LinkOk.change {c : Instr} {s t : State} (move : Change c s t) (h : LinkOk s) : LinkOk t := by
  rcases move.still with still | ⟨v, event, rfl⟩
  · unfold LinkOk
    rw [still.svl]
    exact h
  · exact SvlLaw.move event h

theorem HeldOk.of_running {s : State} (running : s.ttp.held = false) : HeldOk s := fun held =>
  absurd (running.symm.trans held) nofun

/-- A command keeps the law of a held reset, and with it the link's law. -/
theorem HeldOk.happens {c : Instr} {s t : State} (happens : Happens c s t) (held : HeldOk s) :
    HeldOk t ∧ (LinkOk s → LinkOk t) := by
  have released (reset : s.ttp.held = true) (pins : ReleasePins) : LinkOk (releaseReset pins s) := by
    obtain ⟨-, -, -, -, -, -, -, -, -, -, svl⟩ := held reset
    unfold LinkOk releaseReset
    rw [svl]
    exact ⟨fun _ => ⟨rfl, rfl⟩, fun _ => rfl, fun _ => rfl⟩
  cases happens with
  | reset por record count =>
    exact ⟨fun _ => ⟨rfl, rfl, rfl, rfl, rfl, rfl, rfl, rfl, rfl, rfl, rfl⟩, fun _ => ⟨fun _ => ⟨rfl, rfl⟩, fun _ => rfl, fun _ => rfl⟩⟩
  | release pins reset => exact ⟨.of_running rfl, fun _ => released reset pins⟩
  | releaseTrip pins reset =>
    have trip : Change .actionComplete (releaseReset pins s) (tripTrigger (releaseReset pins s) .safe) := .trip _ _
    exact ⟨.of_running (tripTrigger_still _ _).held, fun _ => LinkOk.change trip (released reset pins)⟩
  | pin high => exact ⟨held, id⟩
  | unheard => exact ⟨held, id⟩
  | heard running changes =>
    exact ⟨.of_running (changes.own.1.trans running), changes.keeps fun _ _ => LinkOk.change⟩

/-- Settles O58: no reset is held after a change, and a release finds the link at its reset values. -/
theorem linkAndHeldLawsAreKept : Obligations.LinkAndHeldLawsAreKept := by
  unfold Obligations.LinkAndHeldLawsAreKept
  intro s t held stepped
  rcases pending : s.pending with _ | ⟨c, rest⟩
  · rw [step_of_idle pending] at stepped
    cases stepped
    refine ⟨?_, tick_keeps (fun c a b => LinkOk.change) fun a ha => by rw [passTime_eq]; exact ha⟩
    cases reset : s.ttp.held with
    | true => rw [show tick s = s by simp only [tick, whileRunning, reset, if_true]]; exact held
    | false =>
      exact .of_running (tick_keeps (P := fun a => a.ttp.held = false)
        (fun c a b move off => (Change.one move).own.1.trans off) (fun a off => by rw [passTime_eq]; exact off) reset)
  · rw [step_of_pending pending] at stepped
    exact HeldOk.happens (s := { s with pending := rest }) (happens_of_exec stepped) held

theorem Happens.own {c : Instr} {s t : State} (h : Happens c s t) : t.pending = s.pending ∧ t.ticks = s.ticks := by
  cases h with
  | releaseTrip pins => exact ⟨(tripTrigger_still _ _).pending, (tripTrigger_still _ _).ticks⟩
  | heard _ changes => exact changes.own.2
  | _ => exact ⟨rfl, rfl⟩

/-- Settles O2. -/
theorem everyCommandLeavesTheQueue : Obligations.EveryCommandLeavesTheQueue := by
  unfold Obligations.EveryCommandLeavesTheQueue
  intro c s
  obtain ⟨t, out, happens⟩ := exec_happens c s
  exact ⟨t, out, happens.own⟩

end Sys2Proof.Machine
end

section
/-! PROOF. The queue, the resets and the release, a held reset, the output lines, SAFE, and the state after reset. -/

namespace Sys2Proof.Machine

/-- Settles O1. -/
theorem stepRunsTheFrontCommand : Obligations.StepRunsTheFrontCommand := by
  unfold Obligations.StepRunsTheFrontCommand
  exact fun c rest s => step_of_pending rfl

/-- Settles O4. -/
theorem resetsSetEveryBlock : Obligations.ResetsSetEveryBlock := by
  unfold Obligations.ResetsSetEveryBlock
  intro s
  exact ⟨rfl, rfl⟩

/-- Settles O5. -/
theorem releaseLatchesTheStraps : Obligations.ReleaseLatchesTheStraps := by
  unfold Obligations.ReleaseLatchesTheStraps
  intro pins s
  have out : exec (.resetRelease pins) s = .next
      (if s.ttp.held then if pins.safe then tripTrigger (releaseReset pins s) .safe else releaseReset pins s else s) := rfl
  refine ⟨fun running => ?_, fun held => ?_⟩
  · rw [out, running]; rfl
  · rw [out, held]; rfl

theorem whileRunning_of_held {s : State} (held : s.ttp.held = true) (f : State → State) : whileRunning s f = s :=
  if_pos held

theorem whileRunning_of_running {s : State} (running : s.ttp.held = false) (f : State → State) : whileRunning s f = f s :=
  if_neg (Bool.eq_false_iff.mp running)

/-- Settles O6: the turret's and the ports' events run only without reset, and the link takes nothing while one is held. -/
theorem heldResetHearsNothing : Obligations.HeldResetHearsNothing := by
  unfold Obligations.HeldResetHearsNothing
  intro c s held notReset notRelease notPin
  have deaf := takesRequest_of_held held
  have unheard (f : State → State) : (.next (whileRunning s f) : Answer) = .next s := by
    rw [whileRunning_of_held held]
  rcases request : requestOf c with _ | ⟨op, b⟩
  swap
  · obtain ⟨own, -, out⟩ := exec_of_requestOf request
    rw [out, request_of_not_taken deaf, settleTimers_self, ite_self]
  cases c <;> simp only [requestOf, reduceCtorEq] at request
  case powerOnReset | nreset => cases notReset
  case resetRelease pins => exact absurd rfl (notRelease pins)
  case gpolPinChange h => exact absurd rfl (notPin h)
  case transactionStart => exact congrArg Host.Outcome.next (by simp [transactionStart, held])
  case transactionEnd bits clocked => exact congrArg Host.Outcome.next (by simp [transactionEnd, held])
  case unknownOpcode op b => exact congrArg Host.Outcome.next (by simp [deaf])
  case nop => exact congrArg Host.Outcome.next (by simp [nopRequest, deaf])
  all_goals exact unheard _

/-! ## The output lines -/

theorem attention_ne_none_iff (a : Attention) : a ≠ .none ↔ ∃ f, a.has f = true := by
  constructor
  · intro some_set
    by_contra none_set
    have clear (f : Flag) : a.has f = false := Bool.eq_false_iff.mpr fun set => none_set ⟨f, set⟩
    obtain ⟨h, b, w, k, d, r, m, t⟩ := a
    exact some_set (by
      rw [Attention.none, Attention.mk.injEq]
      exact ⟨clear .holdWaiting, clear .binFull, clear .swapReady, clear .bankFree, clear .driftAlarm,
        clear .refOverdue, clear .meterFault, clear .trip⟩)
  · rintro ⟨f, set⟩ rfl
    cases f <;> cases set

theorem anyFull_iff (s : State) :
    auxCondition s .anyFull = true ↔
      ∃ b, (s.bin b).state = .full ∨ (s.bin b).state = .draining ∨ (s.bin b).state = .exchange := by
  simp only [auxCondition, List.any_eq_true, Bool.or_eq_true, beq_iff_eq, or_assoc, Vector.mem_toList_iff]
  constructor
  · rintro ⟨r, mem, state⟩
    obtain ⟨i, below, rfl⟩ := Vector.mem_iff_getElem.mp mem
    exact ⟨⟨i, below⟩, state⟩
  · rintro ⟨b, state⟩
    exact ⟨s.bin b, Vector.getElem_mem b.isLt, state⟩

/-- Settles O7. -/
theorem outputLinesFollowTheirConditions : Obligations.OutputLinesFollowTheirConditions := by
  unfold Obligations.OutputLinesFollowTheirConditions
  intro s
  refine ⟨fun held => ?_, fun running => ⟨?_, ?_, ?_, fun i => ?_, fun l => ?_⟩, fun h => rfl⟩
  · simp [loadInh, haltReq, attn, auxLine, gateLine, held]
  · simp [loadInh, running, Option.isSome_iff_ne_none]
  · simp [haltReq, running]
  · simp only [attn, running, Bool.not_false, Bool.true_and, bne_iff_ne, attention_ne_none_iff]
  · have line : auxLine s i = auxCondition s s.ttp.aux[i] := by simp [auxLine, running]
    rw [line]
    cases s.ttp.aux[i]
    case anyFull => exact anyFull_iff s
    case holdWait => simp [auxCondition]
    all_goals simp [auxCondition]
  · simp only [gateLine, running, Bool.false_eq_true, if_false, State.pulse]
    cases s.gates[l] <;> cases s.ttp.gpolHigh <;> rfl

/-! ## SAFE -/

/-- Settles O12. -/
theorem safeLineTriggersATrip : Obligations.SafeLineTriggersATrip := by
  unfold Obligations.SafeLineTriggersATrip
  intro s running
  have active : exec .safeActive s = .next (settleTimers s (safeOn s)) :=
    congrArg Host.Outcome.next (whileRunning_of_running running _)
  refine ⟨fun was => ?_, fun was => ?_, ?_⟩
  · rw [active, safeOn, was]; rfl
  · rw [active, safeOn, was, if_pos rfl, settleTimers_self]
  · exact congrArg Host.Outcome.next (whileRunning_of_running running _)

/-! ## The state after reset -/

/-- Settles O59: a release of a power-on reset found this state, so its blocks are those of the reset. -/
theorem resetMeetsEveryLaw : Obligations.ResetMeetsEveryLaw := by
  unfold Obligations.ResetMeetsEveryLaw
  have empty (p : PocketNo) : State.reset.record p = none := by simp [State.record, State.reset, Ptk.reset]
  have tally (test : Part → Bool) : State.reset.tally test = 0 := by simp [State.tally, empty]
  have bank (k : BankId) : State.reset.bank k = .reset := by cases k <;> rfl
  refine ⟨⟨by decide, by decide, fun p _ => empty p⟩, ?hold, fun b => ?bins, ?ports, ?banks, fun k => ?lots, fun p => ?retests,
    by decide, ?trip, ?link, ?held⟩
  case hold =>
    refine ⟨by simp [State.reset, Svl.reset], by simp [State.reset, Svl.reset], by simp [State.reset, Svl.reset], fun p held => ?_⟩
    rw [not_held_of_none (empty p)] at held
    cases held
  case bins =>
    have bin : State.reset.bin b = .reset := by simp [State.bin, State.reset]
    have busy : pulseRunning State.reset b = false := by simp [pulseRunning, State.pulse, State.reset]
    rw [binOk_iff, bin, tally, busy]
    exact ⟨rfl, Nat.le_refl _, fun _ => ⟨rfl, rfl⟩, nofun, fun open_ => absurd rfl open_⟩
  case ports => exact ⟨PortLaw.of_empty rfl rfl, PortLaw.of_empty rfl rfl, nofun⟩
  case banks =>
    refine (banksOk_iff _).mpr ⟨fun k => ?_, nofun, nofun⟩
    rw [bank, tally]
    exact ⟨rfl, fun _ => rfl, nofun⟩
  case lots =>
    change (State.reset.bank k).Balances
    rw [bank]
    unfold Bank.Balances
    decide
  case retests => rw [empty]; rfl
  case trip => exact ⟨⟨nofun, fun caused => absurd rfl caused⟩, nofun, nofun, nofun⟩
  case link => exact ⟨fun _ => ⟨rfl, rfl⟩, fun _ => rfl, fun _ => rfl⟩
  case held => exact nofun

end Sys2Proof.Machine
end

section
/-! PROOF. Index arrivals and load arrivals (R3, R9 to R17): the order of the shares, the ring's advance, which no share
touches, the contact verdict, the passes, and the outcomes of a load. -/

namespace Sys2Proof.Machine

/-! ## The order of the shares -/

theorem mem_firstPlaces {x : Share} {xs seen : List Share} : x ∈ firstPlaces seen xs ↔ x ∈ xs ∧ x ∉ seen := by
  induction xs generalizing seen with
  | nil => simp [firstPlaces]
  | cons y ys ih =>
    by_cases before : y ∈ seen
    · rw [firstPlaces, if_pos (List.contains_iff_mem.mpr before), ih, List.mem_cons]
      constructor
      · rintro ⟨mem, fresh⟩; exact ⟨.inr mem, fresh⟩
      · rintro ⟨rfl | mem, fresh⟩
        · exact absurd before fresh
        · exact ⟨mem, fresh⟩
    · rw [firstPlaces, if_neg (mt List.contains_iff_mem.mp before), List.mem_cons, ih, List.mem_cons, List.mem_cons]
      by_cases same : x = y
      · subst same; simp [before]
      · simp [same]

theorem nodup_firstPlaces (xs seen : List Share) : (firstPlaces seen xs).Nodup := by
  induction xs generalizing seen with
  | nil => exact List.nodup_nil
  | cons y ys ih =>
    unfold firstPlaces
    split
    · exact ih seen
    · exact List.nodup_cons.mpr ⟨fun again => (mem_firstPlaces.mp again).2 List.mem_cons_self, ih _⟩

theorem prefix_firstPlaces {xs seen : List Share} (once : xs.Nodup) (fresh : ∀ x ∈ xs, x ∉ seen) (ys : List Share) :
    xs <+: firstPlaces seen (xs ++ ys) := by
  induction xs generalizing seen with
  | nil => exact List.nil_prefix
  | cons x xs ih =>
    obtain ⟨new, once⟩ := List.nodup_cons.mp once
    rw [List.cons_append, firstPlaces, if_neg (mt List.contains_iff_mem.mp (fresh x List.mem_cons_self))]
    refine List.cons_prefix_cons.mpr ⟨rfl, ih once fun y mem again => ?_⟩
    rcases List.mem_cons.mp again with rfl | before
    · exact new mem
    · exact fresh y (List.mem_cons_of_mem x mem) before

theorem mem_defaultOrder (x : Share) : x ∈ defaultOrder := by cases x <;> decide

theorem fullOrder_nodup (order : List Share) : (fullOrder order).Nodup := nodup_firstPlaces _ _

theorem fullOrder_perm (order : List Share) : (fullOrder order).Perm defaultOrder := by
  refine (List.perm_ext_iff_of_nodup (fullOrder_nodup order) (by decide)).mpr fun x => ?_
  have named : x ∈ fullOrder order := mem_firstPlaces.mpr ⟨List.mem_append_right _ (mem_defaultOrder x), List.not_mem_nil⟩
  exact iff_of_true named (mem_defaultOrder x)

theorem exec_indexArrival {s : State} (running : s.ttp.held = false) (home contact convalid : Bool) (order : List Share) :
    exec (.indexArrival home contact convalid order) s = .next (indexEvent home contact convalid order s) :=
  congrArg Host.Outcome.next (whileRunning_of_running running _)

/-- Settles O8. -/
theorem indexArrivalTakesEveryShareOnce : Obligations.IndexArrivalTakesEveryShareOnce := by
  unfold Obligations.IndexArrivalTakesEveryShareOnce
  intro home contact convalid order s
  refine ⟨fun running => exec_indexArrival running home contact convalid order,
    ⟨rfl, rfl, fun slipped => ⟨rfl, rfl, rfl, rfl, rfl⟩⟩, fullOrder_perm order, fun once => ?_⟩
  exact prefix_firstPlaces once (fun _ _ => List.not_mem_nil) _

/-! ## What the shares leave of the track (R9) -/

/-- The track but for the records and the operating state, each field where the command may not change it. -/
structure TrackStill (c : Instr) (s t : State) : Prop where
  ring : asks 0x10 c = false → t.ptk.ring = s.ptk.ring
  loadPointer : asks 0x10 c = false → indexes c = false → t.ptk.loadPointer = s.ptk.loadPointer
  indexCount : indexes c = false → t.ptk.indexCount = s.ptk.indexCount
  serial : loads c = false → t.ptk.serial = s.ptk.serial
  conflicts : loads c = false → t.ptk.conflicts = s.ptk.conflicts
  untracked : loads c = false → t.ptk.untracked = s.ptk.untracked

section
variable {c : Instr} {s t u : State}

theorem TrackStill.trans (st : TrackStill c s t) (tu : TrackStill c t u) : TrackStill c s u where
  ring a := (tu.ring a).trans (st.ring a)
  loadPointer a i := (tu.loadPointer a i).trans (st.loadPointer a i)
  indexCount i := (tu.indexCount i).trans (st.indexCount i)
  serial l := (tu.serial l).trans (st.serial l)
  conflicts l := (tu.conflicts l).trans (st.conflicts l)
  untracked l := (tu.untracked l).trans (st.untracked l)

theorem TrackStill.of_ptk {records : Vector (Option Part) 32} {o : OpState}
    (h : t.ptk = { s.ptk with records := records, opState := o }) : TrackStill c s t := by
  constructor <;> intros <;> rw [h]

theorem tripTrigger_ptk (s : State) (cause : Cause) :
    (tripTrigger s cause).ptk = { s.ptk with records := (tripTrigger s cause).ptk.records, opState := .tripped } :=
  congrArg State.ptk (tripTrigger_frame s cause)

theorem OwnerChange.trackStill {op : Byte} (asked : asks op c = true) (move : OwnerChange op s t) : TrackStill c s t := by
  cases move with
  | ring =>
    refine ⟨fun no => ?_, fun no => ?_, fun _ => rfl, fun _ => rfl, fun _ => rfl, fun _ => rfl⟩ <;>
      exact absurd (asked.symm.trans no) nofun
  | verdictBin _ p r b => exact .of_ptk (by rw [grant_frame]; rfl)
  | clearTrack => exact .of_ptk (by rw [clearTrack_frame])
  | trip => exact .of_ptk (tripTrigger_ptk s _)
  | timeout | restore => exact .of_ptk (by rw [State.modPort_ptk])
  | write => exact .of_ptk (by rw [State.modBank_ptk])
  | activateDraining => exact .of_ptk (by rw [switchTo_frame])
  | activateStandby => exact .of_ptk (by rw [switchTo_frame, State.modCounts, State.modBank_frame])
  | resizeBin => exact .of_ptk (by rw [resizeBin_frame])
  | swapBegin => exact .of_ptk (by rw [beginSwap_frame])
  | _ => exact .of_ptk rfl

theorem Change.trackStill (move : Change c s t) : TrackStill c s t := by
  cases move with
  | void => exact .of_ptk (by rw [voidPocket_frame])
  | recirc => exact .of_ptk (by rw [recircPocket_frame])
  | trip => exact .of_ptk (tripTrigger_ptk s _)
  | fault => exact .of_ptk (by rw [faultPort, State.modPort_frame, writeLost_frame]; rfl)
  | endPulse => exact .of_ptk (by rw [endPulse_frame])
  | drain => exact .of_ptk (by rw [drainTest_frame])
  | fire => exact .of_ptk (by rw [firePocket_frame])
  | sweep => exact .of_ptk (by rw [sweepOut_frame])
  | sweepHeld => exact .of_ptk (by rw [sweepOut_frame]; rfl)
  | expire => exact .of_ptk (by rw [expireEntry_frame])
  | classed | retestRev => exact .of_ptk (by rw [State.modCounts, State.modBank_ptk])
  | gradeBin => exact .of_ptk (by rw [grant_frame]; rfl)
  | sample v =>
    rcases Nat.lt_or_ge s.drm.config.alarmLimit v.natAbs with beyond | within
    · rw [sampleArrival_of_beyond beyond]; exact .of_ptk (tripTrigger_ptk _ _)
    · rw [sampleArrival_of_within within]; exact .of_ptk rfl
  | trigger | listen => exact .of_ptk (by rw [State.modPort_ptk])
  | skip => exact .of_ptk (by rw [modPart_frame])
  | answerTaken => exact .of_ptk (by rw [matchFrame_frame])
  | arrive home contact convalid index =>
    rw [arrive_frame]
    refine ⟨fun _ => rfl, fun _ no => ?_, fun no => ?_, fun _ => rfl, fun _ => rfl, fun _ => rfl⟩ <;>
      exact absurd (index.symm.trans no) nofun
  | create st refsel load =>
    rw [createRecord_frame]
    refine ⟨fun _ => rfl, fun _ _ => rfl, fun _ => rfl, fun no => ?_, fun no => ?_, fun no => ?_⟩ <;>
      exact absurd (load.symm.trans no) nofun
  | conflict n load =>
    refine ⟨fun _ => rfl, fun _ _ => rfl, fun _ => rfl, fun no => ?_, fun no => ?_, fun no => ?_⟩ <;>
      exact absurd (load.symm.trans no) nofun
  | productLoad => exact .of_ptk (by rw [productLoad_frame])
  | complete => exact .of_ptk (by rw [completionTest_frame])
  | bankReturn => exact .of_ptk (by rw [bankReturn_frame])
  | owner _ op asked owned => exact owned.trackStill asked
  | _ => exact .of_ptk rfl

theorem Changes.trackStill (h : Changes c s t) : TrackStill c s t :=
  h.keeps (P := TrackStill c s) (fun _ _ move still => still.trans move.trackStill) (.of_ptk rfl)

end

/-- No share of an index arrival, and no expiry after it, moves the ring. -/
theorem shares_trackStill (slipped : Bool) (order : List Share) (s t : State) :
    TrackStill .actionComplete t (settleTimers s (order.foldl (takeShare slipped) t)) := by
  have share (u : State) (x : Share) : TrackStill .actionComplete u (takeShare slipped u x) := by
    by_cases drift : x = .drift
    · subst drift; exact .of_ptk rfl
    · exact (takeShare_changes slipped u drift).trackStill
  have taken := List.foldlRecOn order (motive := TrackStill .actionComplete t) (takeShare slipped) (.of_ptk rfl)
    fun u still x _ => still.trans (share u x)
  exact taken.trans (expireWhere_changes _ _).trackStill

theorem mod_of_lt_double {x n : Nat} (h : x < 2 * n) : x % n = if x < n then x else x - n := by
  split
  next small => exact Nat.mod_eq_of_lt small
  next large => rw [Nat.mod_eq_sub_mod (by omega), Nat.mod_eq_of_lt (by omega)]

/-- One place further and one offset further is the same pocket (R9). -/
theorem advanced_offset_mod {l n k : Nat} (inside : l < n) (below : k < n) :
    ((l + 1) % n + n - (k + 1) % n) % n = (l + n - k) % n := by
  have pointer := mod_of_lt_double (x := l + 1) (n := n) (by omega)
  have offset := mod_of_lt_double (x := k + 1) (n := n) (by omega)
  have places : (l + 1) % n + n - (k + 1) % n < 2 * n := by
    rw [pointer, offset]; split_ifs <;> omega
  rw [mod_of_lt_double places, mod_of_lt_double (x := l + n - k) (by omega), pointer, offset]
  split_ifs <;> omega

theorem RingOk.pocketAt_val {s : State} (h : RingOk s) (k : Nat) :
    (pocketAt s k).val = (s.ptk.loadPointer + s.ptk.ring.pockets - k) % s.ptk.ring.pockets := by
  obtain ⟨⟨twelve, thirtyTwo⟩, -⟩ := (Ring.valid_iff_meets _).mp h.1
  have below := Nat.mod_lt (s.ptk.loadPointer + s.ptk.ring.pockets - k) (show 0 < s.ptk.ring.pockets by omega)
  exact Nat.mod_eq_of_lt (by omega)

/-- The way from the load pointer back by `k` places, as an integer remainder (R3). -/
theorem natCast_offset_mod {l n k : Nat} (below : k < n) : (((l + n - k) % n : Nat) : Int) = ((l : Int) - k) % n := by
  have shifted : ((l + n - k : Nat) : Int) = (l : Int) - k + n := by omega
  rw [Int.natCast_emod, shifted, Int.add_emod_right]

/-- Settles O9: the arrival's own part moves the ring, and the shares leave it. -/
theorem indexArrivalAdvancesTheRing : Obligations.IndexArrivalAdvancesTheRing := by
  unfold Obligations.IndexArrivalAdvancesTheRing
  intro home contact convalid order s running ok
  have still := shares_trackStill (slipFound home (advanceRing s)) (fullOrder order) s (arrive home contact convalid s)
  refine ⟨_, exec_indexArrival running home contact convalid order, ?pointer, ?count, ?ring, ?serial, ?conflicts, ?untracked,
    fun straight k below => ?pockets, fun k below => ?value, fun p below => ?offset⟩
  case pointer => exact (still.loadPointer rfl rfl).trans (arrive_loadPointer ..)
  case count => exact (still.indexCount rfl).trans (by rw [arrive_frame])
  case ring => exact (still.ring rfl).trans (by rw [arrive_frame])
  case serial => exact (still.serial rfl).trans (by rw [arrive_frame])
  case conflicts => exact (still.conflicts rfl).trans (by rw [arrive_frame])
  case untracked => exact (still.untracked rfl).trans (by rw [arrive_frame])
  case pockets =>
    subst straight
    have ring := (still.ring rfl).trans (by rw [arrive_frame] : _ = s.ptk.ring)
    have pointer := (still.loadPointer rfl rfl).trans (arrive_loadPointer false contact convalid s)
    rw [if_neg Bool.false_ne_true] at pointer
    obtain ⟨-, inside, -⟩ := ok
    have same := advanced_offset_mod inside below
    unfold pocketAt
    simp only [indexEvent, indexArrival, ring, pointer, same]
  case value => rw [ok.pocketAt_val, natCast_offset_mod below]
  case offset => exact natCast_offset_mod below

/-! ## The contact verdict and the passes -/

theorem contactVerdict_record (contact convalid : Bool) (s : State) (q : PocketNo) :
    (contactVerdict contact convalid s).record q =
      if convalid = true ∧ s.ptk.ring.contact ≠ 0 ∧ q = pocketAt s s.ptk.ring.contact then
        (s.record q).map fun r =>
          if r.state = .measuring then { r with contact := some (if contact then .pass else .fail) } else r
      else s.record q := by
  unfold contactVerdict
  by_cases asked : s.ptk.ring.contact ≠ 0 ∧ convalid = true
  · rw [if_pos asked, State.record_modPart]
    simp only [asked.1, asked.2, ne_eq, not_false_eq_true, true_and]
  · rw [if_neg asked, if_neg fun all => asked ⟨all.2.1, all.1⟩]

/-- Settles O10. -/
theorem contactVerdictAndPassesAtOffsetZero : Obligations.ContactVerdictAndPassesAtOffsetZero := by
  unfold Obligations.ContactVerdictAndPassesAtOffsetZero
  refine ⟨?_, fun slipped s => ⟨fun h => ?_, fun r h => ⟨fun recirc => ?_, fun retest k tag => ?_, fun notRecirc notRetest => ?_⟩⟩⟩
  · rintro home contact convalid s t rfl
    refine ⟨?_, fun q => ?_⟩
    · rw [← arrive_loadPointer home contact convalid s]
      conv_lhs => rw [arrive_frame]
      conv_rhs => rw [arrive_frame]
    · rw [← contactVerdict_record, State.record, arrive_frame, State.record]
  · simp only [takeShare, passShare, h]
  · simp only [takeShare, passShare, h, recirc]; rfl
  · have passed : takeShare slipped s .passes = (s.setRecord (pocketAt s 0) (some r.cleared)).modCounts k
        fun n => { n with retestRevs := n.retestRevs + 1 } := by
      simp only [takeShare, passShare, h, retest, tag]
    exact passed
  · rcases state : r.state with _ | _ | _ | _ | _ | _
    case recirc => exact absurd state notRecirc
    case retest => exact absurd state notRetest
    all_goals simp only [takeShare, passShare, h, state]

end Sys2Proof.Machine
end

section
/-! PROOF. Reservations, fires and releases (R111 to R115), the box exchange (R117 to R120), the drain test and the end of a
gate pulse (R119, R134, R135). -/

namespace Sys2Proof.Machine

/-! ## Reservations, fires and releases -/

@[simp] theorem State.setBin_setBin (s : State) (b : SortBin) (r r' : BinRec) : (s.setBin b r).setBin b r' = s.setBin b r' := by
  simp [State.setBin, Vector.set_set]

@[simp] theorem pulseRunning_setBin (s : State) (b c : SortBin) (r : BinRec) : pulseRunning (s.setBin b r) c = pulseRunning s c := rfl

/-- The drain test of a bin whose record has just been written (R119). -/
theorem drainTest_setBin (s : State) (b : SortBin) (r : BinRec) :
    drainTest (s.setBin b r) b =
      if r.state = .draining ∧ r.reserved = 0 ∧ pulseRunning s b = false then
        (s.setBin b { r with state := .exchange }).raise .swapReady
      else s.setBin b r := by
  simp only [drainTest, State.bin_setBin_same, pulseRunning_setBin, State.setBin_setBin]

/-- R111's rule: below the capacity, or with the override flag below capacity and margin together. -/
theorem BinRec.grants_iff (r : BinRec) (o : Bool) :
    r.grants o = true ↔
      ((r.state = .opened ∧ r.filled + r.reserved < r.capacity + (if o then r.margin else 0)) ∨
        (r.state = .full ∧ o = true ∧ r.filled + r.reserved < r.capacity + r.margin)) := by
  rcases state : r.state with _ | _ | _ | _ | _ <;> cases o <;> simp [BinRec.grants, state]

/-- Settles O35. -/
theorem reservationFireAndRelease : Obligations.ReservationFireAndRelease := by
  unfold Obligations.ReservationFireAndRelease
  intro s b r
  refine ⟨⟨rfl, rfl⟩, fun o granted => reserve_eq_some.mpr ⟨granted, rfl⟩, r.grants_iff,
    fun o => ⟨reserve_eq_none.mpr, fun granted => ?granted⟩, fun stays => ?stays, fun drained => ?drained⟩
  case granted =>
    rw [reserve_eq_some.mpr ⟨granted, rfl⟩]
    exact ⟨fun opened full => congrArg some (if_pos ⟨opened, full⟩),
      fun other => congrArg some (if_neg (not_and_or.mpr other))⟩
  case stays => exact ⟨(drainTest_setBin ..).trans (if_neg stays), (drainTest_setBin ..).trans (if_neg stays)⟩
  case drained => exact ⟨(drainTest_setBin ..).trans (if_pos drained), (drainTest_setBin ..).trans (if_pos drained)⟩

/-! ## The box exchange -/

theorem exec_swapBegin_of_takes {s : State} (taken : takesRequest s = true) (n : Byte) :
    exec (.swapBegin (bodyOf [n])) s = .next ((ownSwapBegin [n] s).1.answer 0x42 (ownSwapBegin [n] s).2) :=
  congrArg Host.Outcome.next (request_bodyOf taken rfl (by decide : 1 < 256))

theorem exec_swapDone_of_takes {s : State} (taken : takesRequest s = true) (n : Byte) :
    exec (.swapDone (bodyOf [n])) s = .next ((ownSwapDone [n] s).1.answer 0x43 (ownSwapDone [n] s).2) :=
  congrArg Host.Outcome.next (request_bodyOf taken rfl (by decide : 1 < 256))

/-- SWAP_BEGIN and SWAP_DONE refuse a number that is no sort bin's. -/
theorem ownSwap_of_no_bin {n : Byte} (outside : n = 0 ∨ 15 < n.toNat) (s : State) :
    ownSwapBegin [n] s = (s, ⟨.badValue, []⟩) ∧ ownSwapDone [n] s = (s, ⟨.badValue, []⟩) := by
  simp only [ownSwapBegin, ownSwapDone, sortBinOf_eq_none outside]
  exact ⟨rfl, rfl⟩

section
variable {s : State} {b : SortBin}

theorem ownSwapBegin_of_in_use (inUse : (s.bin b).state = .opened ∨ (s.bin b).state = .full) :
    ownSwapBegin [byte (b.val + 1)] s =
      (beginSwap s b, ⟨.ok, [((beginSwap s b).bin b).state.code, byte ((beginSwap s b).bin b).reserved]⟩) := by
  simp only [ownSwapBegin, sortBinOf_number, if_pos inUse]; rfl

theorem ownSwapBegin_of_other (other : ¬((s.bin b).state = .opened ∨ (s.bin b).state = .full)) :
    ownSwapBegin [byte (b.val + 1)] s = (s, ⟨.wrongState, []⟩) := by
  simp only [ownSwapBegin, sortBinOf_number, if_neg other]; rfl

theorem beginSwap_of_empty (unreserved : (s.bin b).reserved = 0) (idle : pulseRunning s b = false) :
    beginSwap s b = (s.setBin b { s.bin b with state := .exchange }).raise .swapReady :=
  (drainTest_setBin ..).trans (if_pos ⟨rfl, unreserved, idle⟩)

theorem beginSwap_of_busy (busy : (s.bin b).reserved ≠ 0 ∨ pulseRunning s b = true) :
    beginSwap s b = s.setBin b { s.bin b with state := .draining } :=
  (drainTest_setBin ..).trans (if_neg fun ⟨_, unreserved, idle⟩ =>
    busy.elim (fun h => h unreserved) fun h => Bool.eq_false_iff.mp idle h)

theorem ownSwapDone_of_exchange (exchange : (s.bin b).state = .exchange) :
    ownSwapDone [byte (b.val + 1)] s =
      (s.setBin b (s.bin b).swapped, ⟨.ok, bytesOf 3 (s.bin b).filled ++ bytesOf 2 ((s.bin b).boxSeq + 1).toNat⟩) := by
  simp only [ownSwapDone, sortBinOf_number, if_pos exchange]; rfl

theorem ownSwapDone_of_other (other : (s.bin b).state ≠ .exchange) :
    ownSwapDone [byte (b.val + 1)] s = (s, ⟨.wrongState, []⟩) := by
  simp only [ownSwapDone, sortBinOf_number, if_neg other]; rfl

end

/-! ## The drain test and the end of a pulse as commands -/

section
variable {s : State} (running : s.ttp.held = false)
include running

theorem exec_drainComplete (b : SortBin) : exec (.drainComplete b) s = .next (drainTest s b) :=
  congrArg Host.Outcome.next (whileRunning_of_running running _)

theorem exec_gatePulseExpiry (l : Line) : exec (.gatePulseExpiry l) s = .next (expirePulse s l) :=
  congrArg Host.Outcome.next (whileRunning_of_running running _)

end

/-- The end of a bin's running pulse leaves the line idle and makes the bin's drain test (R134, R135). -/
theorem endPulse_lineOf {s : State} {b : SortBin} (running : (s.pulse (lineOf b)).isSome = true) :
    Machine.endPulse s (lineOf b) = drainTest (s.setPulse (lineOf b) none) b := by
  rw [Machine.endPulse, if_pos running, binOfLine_lineOf]

/-- A pulse's expiry does nothing unless a pulse has run its width (R134). -/
theorem expirePulse_of_not_run {s : State} {l : Line} (h : ¬∃ p, s.pulse l = some p ∧ p.width ≤ p.elapsed) :
    expirePulse s l = s := by
  rcases pulse : s.pulse l with _ | p
  · exact expirePulse_of_idle pulse
  · exact expirePulse_of_short pulse (Nat.not_le.mp fun ran => h ⟨p, pulse, ran⟩)

/-- Settles O37. -/
theorem boxExchangeDrainAndPulseEnd : Obligations.BoxExchangeDrainAndPulseEnd := by
  unfold Obligations.BoxExchangeDrainAndPulseEnd
  refine ⟨fun s taken => ⟨fun n outside => ?outside, fun b => ?exchange⟩, fun s running => ?commands⟩
  case outside =>
    obtain ⟨begins, done⟩ := ownSwap_of_no_bin outside s
    exact ⟨by rw [exec_swapBegin_of_takes taken, begins], by rw [exec_swapDone_of_takes taken, done]⟩
  case exchange =>
    have begins : exec (.swapBegin (bodyOf [byte (b.val + 1)])) s = _ := exec_swapBegin_of_takes taken _
    have done : exec (.swapDone (bodyOf [byte (b.val + 1)])) s = _ := exec_swapDone_of_takes taken _
    refine ⟨fun notOpened notFull => begins.trans ?_, fun inUse => ⟨fun unreserved idle => begins.trans ?_,
      fun busy => begins.trans ?_⟩, fun other => done.trans ?_, fun exchange => done.trans ?_⟩
    · rw [ownSwapBegin_of_other (not_or.mpr ⟨notOpened, notFull⟩)]
    · rw [ownSwapBegin_of_in_use inUse, beginSwap_of_empty unreserved idle]
      simp only [State.bin, State.raise_bins, State.setBin_bins, Fin.getElem_fin, Vector.getElem_set_self]
      rw [show s.bins[b.val].reserved = 0 from unreserved]; rfl
    · rw [ownSwapBegin_of_in_use inUse, beginSwap_of_busy busy, State.bin_setBin_same]; rfl
    · rw [ownSwapDone_of_other other]
    · rw [ownSwapDone_of_exchange exchange]; rfl
  case commands =>
    intro ran
    refine ⟨fun b => ⟨fun ready => ?_, fun waits => ?_, ?drains, ?stays⟩, ?sweep, fun l short => ?short⟩
    · exact (exec_drainComplete running b).trans (congrArg Host.Outcome.next (if_pos ready))
    · exact (exec_drainComplete running b).trans (congrArg Host.Outcome.next (if_neg waits))
    case drains =>
      rintro ⟨p, pulse, width⟩ draining unreserved
      rw [exec_gatePulseExpiry running, expirePulse_of_run pulse width, endPulse_lineOf (by rw [pulse]; rfl)]
      exact congrArg Host.Outcome.next
        (if_pos ⟨draining, unreserved, by rw [pulseRunning, State.pulse_setPulse_same]; rfl⟩)
    case stays =>
      rintro ⟨p, pulse, width⟩ stays
      rw [exec_gatePulseExpiry running, expirePulse_of_run pulse width, endPulse_lineOf (by rw [pulse]; rfl)]
      exact congrArg Host.Outcome.next (if_neg fun ⟨draining, unreserved, _⟩ =>
        stays.elim (fun h => h draining) fun h => h unreserved)
    case sweep =>
      rintro ⟨p, pulse, width⟩
      rw [exec_gatePulseExpiry running, expirePulse_of_run pulse width, Machine.endPulse, if_pos (by rw [pulse]; rfl)]
      rfl
    case short => rw [exec_gatePulseExpiry running, expirePulse_of_not_run short]

end Sys2Proof.Machine
end

section
/-! PROOF. What only some commands change (R5, R9, R21, R22, R85, R120, R125, R143, R151, R168, R176). `Kept` collects what a
change leaves unless it is one of the events named there. -/

namespace Sys2Proof.Machine

/-- What the bank writes replace (R85). -/
def Bank.contents (k : Bank) : Lot × Vector WindowEntry 16 × Vector ClassAction 9 := (k.lot, k.entries, k.actions)

/-- What a change keeps: the flags that are set, TRIPPED, the configurations, the period count and the applied offset, the
bins' capacities and box sequences, and the banks' contents. -/
structure Kept (s t : State) : Prop where
  flags : ∀ f, s.svl.attention.has f = true → t.svl.attention.has f = true
  tripped : s.ptk.opState = .tripped → t.ptk.opState = .tripped
  driftConfig : t.drm.config = s.drm.config
  applied : t.drm.applied = s.drm.applied
  periodCount : t.drm.periodCount = s.drm.periodCount
  tripConfig : t.trc.config = s.trc.config
  boxSeq : ∀ b, (t.bin b).boxSeq = (s.bin b).boxSeq
  capacity : ∀ b, (t.bin b).capacity = (s.bin b).capacity
  contents : ∀ k, (t.bank k).contents = (s.bank k).contents

namespace Kept

protected theorem refl (s : State) : Kept s s := by constructor <;> simp

theorem trans {s t u : State} (st : Kept s t) (tu : Kept t u) : Kept s u where
  flags f h := tu.flags f (st.flags f h)
  tripped h := tu.tripped (st.tripped h)
  driftConfig := tu.driftConfig.trans st.driftConfig
  applied := tu.applied.trans st.applied
  periodCount := tu.periodCount.trans st.periodCount
  tripConfig := tu.tripConfig.trans st.tripConfig
  boxSeq b := (tu.boxSeq b).trans (st.boxSeq b)
  capacity b := (tu.capacity b).trans (st.capacity b)
  contents k := (tu.contents k).trans (st.contents k)

theorem foldl {α : Type} {f : State → α → State} (h : ∀ s x, Kept s (f s x)) (xs : List α) (s : State) :
    Kept s (xs.foldl f s) :=
  List.foldlRecOn xs f (.refl s) fun t st x _ => st.trans (h t x)

/-! ## The updates -/

theorem of_untouched {s t : State} (attention : t.svl.attention = s.svl.attention) (opState : t.ptk.opState = s.ptk.opState)
    (drm : t.drm = s.drm) (config : t.trc.config = s.trc.config) (bins : t.bins = s.bins) (bankA : t.bankA = s.bankA)
    (bankB : t.bankB = s.bankB) : Kept s t := by
  refine ⟨?_, ?_, ?_, ?_, ?_, config, ?_, ?_, ?_⟩
  case refine_8 => intro k; cases k <;> simp [State.bank, bankA, bankB]
  all_goals simp [attention, opState, drm, State.bin, bins]

theorem raise (s : State) (f : Flag) : Kept s (s.raise f) where
  flags g h := by cases f <;> cases g <;> first | rfl | exact h
  tripped h := h
  driftConfig := rfl
  applied := rfl
  periodCount := rfl
  tripConfig := rfl
  boxSeq _ := rfl
  capacity _ := rfl
  contents _ := rfl

theorem setBin (s : State) (b : SortBin) {r : BinRec} (boxSeq : r.boxSeq = (s.bin b).boxSeq)
    (capacity : r.capacity = (s.bin b).capacity) : Kept s (s.setBin b r) := by
  have bin (c : SortBin) : (s.setBin b r).bin c = if b = c then r else s.bin c := by
    split
    next same => subst same; exact State.bin_setBin_same s b r
    next ne => exact State.bin_setBin_ne s ne r
  refine ⟨fun _ h => h, fun h => h, rfl, rfl, rfl, rfl, fun c => ?_, fun c => ?_, fun _ => rfl⟩ <;> rw [bin] <;> split
  next same => rw [boxSeq, same]
  next => rfl
  next same => rw [capacity, same]
  next => rfl

theorem modBank (s : State) (k : BankId) {f : Bank → Bank} (contents : (f (s.bank k)).contents = (s.bank k).contents) :
    Kept s (s.modBank k f) := by
  cases k
  all_goals
    refine ⟨fun _ h => h, fun h => h, rfl, rfl, rfl, rfl, fun _ => rfl, fun _ => rfl, fun j => ?_⟩
    cases j
  case a.a => exact contents
  case b.b => exact contents
  all_goals rfl

theorem modDrm (s : State) {f : Drm → Drm} (config : (f s.drm).config = s.drm.config)
    (applied : (f s.drm).applied = s.drm.applied) (periodCount : (f s.drm).periodCount = s.drm.periodCount) :
    Kept s (s.modDrm f) :=
  ⟨fun _ h => h, fun h => h, config, applied, periodCount, rfl, fun _ => rfl, fun _ => rfl, fun _ => rfl⟩

theorem modPort (s : State) (id : PortId) (f : MeterPort → MeterPort) : Kept s (s.modPort id f) := by
  rw [State.modPort_frame]; exact of_untouched rfl rfl rfl rfl rfl rfl rfl

theorem modPart (s : State) (p : PocketNo) (f : Part → Part) : Kept s (s.modPart p f) := by
  rw [modPart_frame]; exact of_untouched rfl rfl rfl rfl rfl rfl rfl

theorem setRecord (s : State) (p : PocketNo) (r : Option Part) : Kept s (s.setRecord p r) :=
  of_untouched rfl rfl rfl rfl rfl rfl rfl

theorem setHold (s : State) (h : List HoldEntry) : Kept s (s.setHold h) := of_untouched rfl rfl rfl rfl rfl rfl rfl

theorem setPulse (s : State) (l : Line) (p : Option Pulse) : Kept s (s.setPulse l p) :=
  of_untouched rfl rfl rfl rfl rfl rfl rfl

/-! ## Bins, pulses, hand-offs -/

theorem drainTest (s : State) (b : SortBin) : Kept s (drainTest s b) := by
  rcases drainTest_cases s b with stays | ⟨_, _, _, drains⟩
  · rw [stays]; exact .refl s
  · rw [drains]; exact (setBin s b (by rfl) (by rfl)).trans (raise _ _)

theorem grant (s : State) (b : SortBin) : Kept s (grant s b) := by
  unfold Machine.grant
  dsimp only
  split
  · exact (setBin s b (by rfl) (by rfl)).trans (raise _ _)
  · exact setBin s b (by rfl) (by rfl)

theorem release (s : State) (b : SortBin) : Kept s (release s b) := (setBin s b (by rfl) (by rfl)).trans (drainTest _ b)

theorem fireReport (s : State) (b : SortBin) : Kept s (fireReport s b) := (setBin s b (by rfl) (by rfl)).trans (drainTest _ b)

theorem endPulse (s : State) (l : Line) : Kept s (endPulse s l) := by
  unfold Machine.endPulse
  split
  · split
    · exact setPulse s l _
    · exact (setPulse s l _).trans (drainTest _ _)
  · exact .refl s

theorem startPulse (s : State) (l : Line) : Kept s (startPulse s l) := (endPulse s l).trans (setPulse _ l _)

theorem strike {s t : State} (move : Strike s t) : Kept s t := by
  cases move with
  | binned p r w b => exact (release s b).trans (setRecord _ p _)
  | held p => exact (setHold s _).trans (setRecord _ p _)
  | measured | plain => exact of_untouched rfl rfl rfl rfl rfl rfl rfl

theorem strikes {s t : State} (moves : Strikes s t) : Kept s t :=
  moves.keeps (P := Kept s) (fun _ _ move kept => kept.trans (strike move)) (.refl s)

theorem departure (s : State) (tag : Option BankId) : Kept s (departure s tag) := by
  unfold Machine.departure
  split
  · exact .refl s
  · dsimp only
    split
    · exact (modBank s _ rfl).trans (raise _ _)
    · exact modBank s _ rfl

theorem completionTest (s : State) : Kept s (completionTest s) := by
  rw [completionTest_frame]; exact of_untouched rfl rfl rfl rfl rfl rfl rfl

theorem emptyPocket (s : State) (p : PocketNo) : Kept s (emptyPocket s p) := by
  unfold Machine.emptyPocket
  split
  · exact .refl s
  · exact ((departure s _).trans (setRecord _ p none)).trans (completionTest _)

theorem exitReport (s : State) (r : Part) (l : Line) : Kept s (exitReport s r l) := by
  unfold Machine.exitReport
  split
  · exact .refl s
  · exact modBank s _ rfl

theorem firePocket (s : State) (p : PocketNo) (r : Part) (b : SortBin) : Kept s (firePocket s p r b) :=
  (((startPulse s _).trans (fireReport _ b)).trans (exitReport _ r _)).trans (emptyPocket _ p)

theorem sweepOut (s : State) (p : PocketNo) : Kept s (sweepOut s p) := by
  unfold Machine.sweepOut
  split
  · exact .refl s
  · exact ((startPulse s 0).trans (exitReport _ _ 0)).trans (emptyPocket _ p)

/-! ## Trips, faults, samples, loads -/

theorem tripTrigger (s : State) (c : Cause) : Kept s (tripTrigger s c) := by
  have entry : Kept s (tripEntry s c) := by
    refine .trans ?_ (raise _ .trip)
    exact ⟨fun _ h => h, fun _ => rfl, rfl, rfl, rfl, rfl, fun _ => rfl, fun _ => rfl, fun _ => rfl⟩
  exact (entry.trans (strikes (tripAction_strikes _))).trans (of_untouched rfl rfl rfl rfl rfl rfl rfl)

theorem faultPort (s : State) (id : PortId) : Kept s (faultPort s id) := by
  unfold Machine.faultPort
  refine (Kept.trans ?_ (modPort _ id _)).trans (raise _ _)
  rw [writeLost_frame]
  exact of_untouched rfl rfl rfl rfl rfl rfl rfl

theorem sampleArrival (s : State) (v : Int) : Kept s (sampleArrival s v) := by
  have sampled : Kept s (s.modDrm fun d => d.sampled v) := modDrm s rfl rfl rfl
  unfold Machine.sampleArrival
  dsimp only
  split
  · exact ((sampled.trans (modDrm _ rfl rfl rfl)).trans (raise _ .driftAlarm)).trans (tripTrigger _ _)
  · exact sampled

theorem productLoad (s : State) : Kept s (productLoad s) := by
  have loaded : Kept s (s.modDrm Drm.loaded) := modDrm s rfl rfl rfl
  unfold Machine.productLoad episodeTest
  split
  · exact (loaded.trans (modDrm _ rfl rfl rfl)).trans (raise _ _)
  · exact loaded

theorem createRecord (s : State) (p : PocketNo) (st : PartState) (tag : Option BankId) (refsel : Bool) :
    Kept s (createRecord s p st tag refsel) := by
  unfold Machine.createRecord loadReport
  dsimp only
  split
  · exact of_untouched rfl rfl rfl rfl rfl rfl rfl
  · refine Kept.trans ?_ (modBank _ _ rfl)
    exact of_untouched rfl rfl rfl rfl rfl rfl rfl

theorem bankReturn (s : State) (k : BankId) : Kept s (bankReturn s k) := by
  unfold Machine.bankReturn
  split
  · exact (modBank s k rfl).trans (raise _ _)
  · exact .refl s

theorem arrive (home contact convalid : Bool) (s : State) : Kept s (arrive home contact convalid s) := by
  rw [arrive_frame]; exact of_untouched rfl rfl rfl rfl rfl rfl rfl

theorem link {s : State} {v : Svl} (move : LinkChange s.svl v) : Kept s { s with svl := v } := by
  refine of_untouched ?_ rfl rfl rfl rfl rfl rfl
  cases move with
  | answer r => exact State.answer_svl_attention s r.opcode ⟨r.status, r.payload⟩
  | _ => rfl

/-! ## Requests -/

theorem switchTo (s : State) (k : BankId) : Kept s (switchTo s k) := by
  unfold Machine.switchTo
  refine (modBank s _ ?_).trans (modBank _ k rfl)
  unfold Bank.replaced
  split <;> rfl

theorem clearPocket (s : State) (p : PocketNo) : Kept s (clearPocket s p) := by
  rcases h : s.record p with _ | r
  · rw [clearPocket_of_none h]; exact .refl s
  · have report : Kept s (clearedReport s r.tag) := by
      unfold clearedReport
      split
      · exact .refl s
      · exact modBank s _ rfl
    have freed : Kept (clearedReport s r.tag) (clearRelease (clearedReport s r.tag) r.state) := by
      unfold clearRelease
      split
      · exact release _ _
      · exact .refl _
    rw [clearPocket_of_some h]
    exact (report.trans freed).trans (emptyPocket _ p)

theorem clearTrack (s : State) : Kept s (clearTrack s) :=
  (foldl clearPocket _ s).trans (of_untouched rfl rfl rfl rfl rfl rfl rfl)

theorem beginSwap (s : State) (b : SortBin) : Kept s (beginSwap s b) :=
  (setBin s b (by rfl) (by rfl)).trans (drainTest _ b)

end Kept

/-! ## One change, and a command -/

section
variable {c : Instr} {s t : State}

/-- Every single change but the period count and the requests keeps all of it. -/
theorem Change.kept_or (move : Change c s t) :
    Kept s t ∨ (indexes c = true ∧ t = s.modDrm Drm.counted) ∨ ∃ op, asks op c = true ∧ OwnerChange op s t := by
  have untouched {t : State} := Kept.of_untouched (s := s) (t := t)
  cases move with
  | count index => exact .inr (.inl ⟨index, rfl⟩)
  | owner _ op asked move => exact .inr (.inr ⟨op, asked, move⟩)
  | void => exact .inl (.strikes (voidPocket_strikes s _))
  | recirc => exact .inl (.strikes (recircPocket_strikes s _))
  | trip => exact .inl (.tripTrigger s _)
  | fault => exact .inl (.faultPort s _)
  | raise => exact .inl (.raise s _)
  | endPulse => exact .inl (.endPulse s _)
  | drain => exact .inl (.drainTest s _)
  | fire => exact .inl (.firePocket s _ _ _)
  | sweep => exact .inl (.sweepOut s _)
  | sweepHeld => exact .inl ((Kept.setHold s _).trans (.sweepOut _ _))
  | expire => rw [expireEntry_frame]; exact .inl (untouched rfl rfl rfl rfl rfl rfl rfl)
  | classed => exact .inl (.modBank s _ rfl)
  | gradeSweep | retest | pass => exact .inl (.setRecord s _ _)
  | gradeBin => exact .inl ((Kept.grant s _).trans (.setRecord _ _ _))
  | hold => exact .inl ((Kept.setRecord s _ _).trans (.setHold _ _))
  | sample => exact .inl (.sampleArrival s _)
  | badReference => exact .inl (.modDrm s rfl rfl rfl)
  | retestRev => exact .inl (.modBank s _ rfl)
  | trigger | listen => exact .inl (.modPort s _ _)
  | skip => exact .inl (.modPart s _ _)
  | answerTaken => rw [matchFrame_frame]; exact .inl (untouched rfl rfl rfl rfl rfl rfl rfl)
  | arrive => exact .inl (.arrive _ _ _ s)
  | create => exact .inl (.createRecord s _ _ _ _)
  | conflict | levels => exact .inl (untouched rfl rfl rfl rfl rfl rfl rfl)
  | productLoad => exact .inl (.productLoad s)
  | complete => exact .inl (.completionTest s)
  | bankReturn => exact .inl (.bankReturn s _)
  | link _ move => exact .inl (.link move)

/-- What a request keeps, by its opcode: its own effect aside, everything; a bank is written only in STANDBY (R85). -/
structure OwnerKept (op : Byte) (s t : State) : Prop where
  flags : op ≠ 0x02 → ∀ f, s.svl.attention.has f = true → t.svl.attention.has f = true
  tripped : op ≠ 0x63 → s.ptk.opState = .tripped → t.ptk.opState = .tripped
  driftConfig : op ≠ 0x50 → t.drm.config = s.drm.config
  applied : t.drm.applied = s.drm.applied
  tripConfig : op ≠ 0x60 → t.trc.config = s.trc.config
  boxSeq : op ≠ 0x43 → ∀ b, (t.bin b).boxSeq = (s.bin b).boxSeq
  capacity : op ≠ 0x40 → ∀ b, (t.bin b).capacity = (s.bin b).capacity
  contents : ∀ k, (s.bank k).state ≠ .standby → (t.bank k).contents = (s.bank k).contents

theorem Kept.owner {op : Byte} (kept : Kept s t) : OwnerKept op s t where
  flags _ := kept.flags
  tripped _ := kept.tripped
  driftConfig _ := kept.driftConfig
  applied := kept.applied
  tripConfig _ := kept.tripConfig
  boxSeq _ := kept.boxSeq
  capacity _ := kept.capacity
  contents k _ := kept.contents k

/-- A resized bin keeps its box sequence. -/
theorem boxSeq_resizeBin (s : State) (b c : SortBin) (capacity margin : Nat) :
    ((resizeBin s b capacity margin).bin c).boxSeq = (s.bin c).boxSeq := by
  by_cases same : b = c
  · subst same
    unfold resizeBin
    dsimp only
    split <;> simp [State.bin]
  · unfold resizeBin
    dsimp only
    split
    · exact congrArg BinRec.boxSeq (State.bin_setBin_ne s same _)
    · rw [State.bin_setBin_ne s same]

theorem attention_resizeBin (s : State) (b : SortBin) (capacity margin : Nat) (f : Flag) (h : s.svl.attention.has f = true) :
    (resizeBin s b capacity margin).svl.attention.has f = true := by
  unfold resizeBin
  dsimp only
  split
  · exact (Kept.raise _ .binFull).flags f h
  · exact h

theorem OwnerChange.kept {op : Byte} (move : OwnerChange op s t) : OwnerKept op s t := by
  have untouched {t : State} := Kept.of_untouched (s := s) (t := t)
  cases move with
  | attention => exact ⟨(absurd rfl ·), fun _ h => h, fun _ => rfl, rfl, fun _ => rfl, fun _ _ => rfl, fun _ _ => rfl, fun _ _ => rfl⟩
  | verdictSweep | verdictRetest => exact Kept.owner ((Kept.setRecord s _ _).trans (.setHold _ _))
  | verdictBin => exact Kept.owner (((Kept.grant s _).trans (.setRecord _ _ _)).trans (.setHold _ _))
  | ring | aux | readTrip => exact Kept.owner (untouched rfl rfl rfl rfl rfl rfl rfl)
  | start _ idle =>
    exact ⟨fun _ _ h => h, fun _ tripped => absurd (idle.symm.trans tripped) nofun, fun _ => rfl, rfl, fun _ => rfl,
      fun _ _ => rfl, fun _ _ => rfl, fun _ _ => rfl⟩
  | stop _ run =>
    exact ⟨fun _ _ h => h, fun _ tripped => absurd (run.symm.trans tripped) nofun, fun _ => rfl, rfl, fun _ => rfl,
      fun _ _ => rfl, fun _ _ => rfl, fun _ _ => rfl⟩
  | clearTrack => exact Kept.owner (.clearTrack s)
  | timeout | restore => exact Kept.owner (.modPort s _ _)
  | write _ _ k f _ standby =>
    have bins (b : SortBin) : (s.modBank k f).bin b = s.bin b := State.bin_modBank s k f b
    refine ⟨fun _ _ h => ?_, fun _ h => ?_, fun _ => ?_, ?_, fun _ => ?_, fun _ b => by rw [bins], fun _ b => by rw [bins],
      fun j notStandby => ?_⟩
    case refine_6 =>
      have other : j = otherBank k := by
        cases j <;> cases k
        case a.b | b.a => rfl
        all_goals exact absurd standby notStandby
      rw [other, State.bank_modBank_other]
    all_goals rw [State.modBank_frame]
    all_goals exact h
  | activateDraining => exact Kept.owner (.switchTo s _)
  | activateStandby => exact Kept.owner ((Kept.modBank s _ rfl).trans (.switchTo _ _))
  | closeBin => exact Kept.owner (.setBin s _ rfl rfl)
  | resizeBin _ b capacity margin =>
    refine ⟨fun _ => attention_resizeBin s b capacity margin, fun _ h => ?_, fun _ => ?_, ?_, fun _ => ?_,
      fun _ c => boxSeq_resizeBin s b c capacity margin, (absurd rfl ·), fun k _ => ?_⟩
    case refine_5 => rw [resizeBin_frame]; cases k <;> rfl
    all_goals rw [resizeBin_frame]
    exact h
  | swapBegin => exact Kept.owner (.beginSwap s _)
  | swapDone _ b =>
    refine ⟨fun _ _ h => h, fun _ h => h, fun _ => rfl, rfl, fun _ => rfl, (absurd rfl ·),
      fun _ c => ?_, fun _ _ => rfl⟩
    by_cases same : b = c
    · subst same; rw [State.bin_setBin_same]; rfl
    · rw [State.bin_setBin_ne s same]
  | setDrift => exact ⟨fun _ _ h => h, fun _ h => h, (absurd rfl ·), rfl, fun _ => rfl, fun _ _ => rfl, fun _ _ => rfl, fun _ _ => rfl⟩
  | clearDrift => exact Kept.owner (.modDrm s rfl rfl rfl)
  | setTrip => exact ⟨fun _ _ h => h, fun _ h => h, fun _ => rfl, rfl, (absurd rfl ·), fun _ _ => rfl, fun _ _ => rfl, fun _ _ => rfl⟩
  | trip => exact Kept.owner (.tripTrigger s _)
  | clearTrip => exact ⟨fun _ _ h => h, (absurd rfl ·), fun _ => rfl, rfl, fun _ => rfl, fun _ _ => rfl, fun _ _ => rfl, fun _ _ => rfl⟩

/-- What a command's changes keep, each thing unless the command is one that changes it. -/
structure Steady (c : Instr) (s t : State) : Prop where
  flags : asks 0x02 c = false → ∀ f, s.svl.attention.has f = true → t.svl.attention.has f = true
  tripped : asks 0x63 c = false → s.ptk.opState = .tripped → t.ptk.opState = .tripped
  driftConfig : asks 0x50 c = false → t.drm.config = s.drm.config
  applied : indexes c = false → t.drm.applied = s.drm.applied
  tripConfig : asks 0x60 c = false → t.trc.config = s.trc.config
  boxSeq : asks 0x43 c = false → ∀ b, (t.bin b).boxSeq = (s.bin b).boxSeq
  capacity : asks 0x40 c = false → ∀ b, (t.bin b).capacity = (s.bin b).capacity

theorem Steady.trans {u : State} (st : Steady c s t) (tu : Steady c t u) : Steady c s u where
  flags no f h := tu.flags no f (st.flags no f h)
  tripped no h := tu.tripped no (st.tripped no h)
  driftConfig no := (tu.driftConfig no).trans (st.driftConfig no)
  applied no := (tu.applied no).trans (st.applied no)
  tripConfig no := (tu.tripConfig no).trans (st.tripConfig no)
  boxSeq no b := (tu.boxSeq no b).trans (st.boxSeq no b)
  capacity no b := (tu.capacity no b).trans (st.capacity no b)

theorem Kept.steady (kept : Kept s t) : Steady c s t where
  flags _ := kept.flags
  tripped _ := kept.tripped
  driftConfig _ := kept.driftConfig
  applied _ := kept.applied
  tripConfig _ := kept.tripConfig
  boxSeq _ := kept.boxSeq
  capacity _ := kept.capacity

theorem OwnerKept.steady {op : Byte} (kept : OwnerKept op s t) (asked : asks op c = true) : Steady c s t := by
  have other {x : Byte} (no : asks x c = false) : op ≠ x := fun same => by
    rw [same, no] at asked; exact absurd asked nofun
  exact ⟨fun no => kept.flags (other no), fun no => kept.tripped (other no), fun no => kept.driftConfig (other no),
    fun _ => kept.applied, fun no => kept.tripConfig (other no), fun no => kept.boxSeq (other no),
    fun no => kept.capacity (other no)⟩

/-- The period count moves the applied offset and keeps the configuration (R143). -/
theorem Drm.counted_config (d : Drm) : d.counted.config = d.config := by
  unfold Drm.counted
  split <;> rfl

theorem Change.steady (move : Change c s t) : Steady c s t := by
  rcases move.kept_or with kept | ⟨index, out⟩ | ⟨op, asked, owner⟩
  · exact kept.steady
  · subst out
    exact ⟨fun _ _ h => h, fun _ h => h, fun _ => Drm.counted_config _, fun no => absurd (index.symm.trans no) nofun,
      fun _ => rfl, fun _ _ => rfl, fun _ _ => rfl⟩
  · exact owner.kept.steady asked

theorem Changes.steady (moves : Changes c s t) : Steady c s t :=
  moves.keeps (P := Steady c s) (fun _ _ move steady => steady.trans move.steady) (Kept.refl s).steady

/-- A command that is no index arrival and asks nothing keeps all of it. -/
theorem Changes.kept (moves : Changes c s t) (index : indexes c = false) (asked : ∀ op, asks op c = false) : Kept s t := by
  refine moves.keeps (P := Kept s) (fun _ _ move kept => ?_) (.refl s)
  rcases move.kept_or with more | ⟨counts, -⟩ | ⟨op, asks, -⟩
  · exact kept.trans more
  · exact absurd (counts.symm.trans index) nofun
  · exact absurd (asks.symm.trans (asked op)) nofun

/-- A command that asks nothing leaves every bank's contents. -/
theorem Changes.contents (moves : Changes c s t) (asked : ∀ op, asks op c = false) (k : BankId) :
    (t.bank k).contents = (s.bank k).contents := by
  refine moves.keeps (P := fun u => (u.bank k).contents = (s.bank k).contents) (fun _ _ move kept => ?_) rfl
  rcases move.kept_or with more | ⟨-, out⟩ | ⟨op, asks, -⟩
  · exact (more.contents k).trans kept
  · rw [out]; exact kept
  · exact absurd (asks.symm.trans (asked op)) nofun

end

/-! ## The banks' contents -/

theorem Kept.expireWhere (test : State → PortId → Bool) (s : State) : Kept s (expireWhere test s) :=
  Changes.kept (c := .actionComplete) (expireWhere_changes test s) rfl fun _ => rfl

theorem Kept.answer (s : State) (op : Byte) (r : Reply) : Kept s (s.answer op r) :=
  .link (.answer s.svl ⟨op, r.status, r.payload⟩)

/-- Every bank that is not in STANDBY keeps its lot, entries and actions (R85). -/
def BanksGuarded (s t : State) : Prop :=
  ∀ k, (s.bank k).state ≠ .standby → (t.bank k).contents = (s.bank k).contents

theorem BanksGuarded.then_kept {s t u : State} (guarded : BanksGuarded s t) (kept : Kept t u) : BanksGuarded s u :=
  fun k h => (kept.contents k).trans (guarded k h)

theorem Kept.guarded {s t : State} (kept : Kept s t) : BanksGuarded s t := fun k _ => kept.contents k

theorem request_guarded {op : Byte} {own : List Byte → State → State × Reply} (owner : ownerOf op = some own) (b : Body)
    (s : State) : BanksGuarded s (request op b own s) := by
  rcases request_cases op b own s with ⟨-, out⟩ | ⟨-, -, out⟩ | ⟨-, -, out⟩ <;> rw [out]
  · exact (Kept.refl s).guarded
  · exact (Kept.answer s op _).guarded
  · refine BanksGuarded.then_kept ?_ (.answer _ op _)
    rcases ownerOf_answers owner (b.bytes.take b.len.toNat) s with same | ⟨-, move⟩
    · rw [same]; exact (Kept.refl s).guarded
    · exact move.kept.contents

theorem serveBytes_guarded (bytes : List Byte) (s : State) : BanksGuarded s (serveBytes bytes s) := by
  rcases bytes with _ | ⟨op, rest⟩
  · exact (Kept.refl s).guarded
  rcases serveBytes_cases op rest s with ⟨-, out⟩ | ⟨-, -, out⟩ | ⟨-, -, -, out⟩ | ⟨own, b, -, owner, -, out⟩ <;> rw [out]
  · exact (Kept.refl s).guarded
  · exact (Kept.answer s op _).guarded
  · exact (Kept.answer s op _).guarded
  · exact (request_guarded owner b s).then_kept (.expireWhere _ _)

theorem transactionEnd_guarded (bits : List Bool) (clocked : Nat) (s : State) :
    BanksGuarded s (transactionEnd bits clocked s) := by
  unfold transactionEnd
  split
  · exact (Kept.refl s).guarded
  split
  · exact (Kept.link (.rise s.svl)).guarded
  split
  · exact (Kept.refl s).guarded
  next out _ =>
    refine BanksGuarded.then_kept ?_ (.link (.ended _ out clocked))
    split
    · exact (Kept.refl s).guarded
    · exact serveBytes_guarded _ s

/-! ## The commands -/

/-- A release, and SAFE's trip with it, keep what `Kept` names. -/
theorem Kept.releaseReset (pins : ReleasePins) (s : State) : Kept s (releaseReset pins s) :=
  .of_untouched rfl rfl rfl rfl rfl rfl rfl

/-- What every command but the resets does to what `Kept` names. -/
theorem kept_or_changes {c : Instr} {s t : State} (noReset : isReset c = false) (run : exec c s = .next t) :
    Kept s t ∨ Changes c s t := by
  cases happens_of_exec run with
  | reset _ _ _ reset => exact absurd (reset.symm.trans noReset) nofun
  | release => exact .inl (.releaseReset _ s)
  | releaseTrip => exact .inl ((Kept.releaseReset _ s).trans (.tripTrigger _ _))
  | pin | unheard => exact .inl (.of_untouched rfl rfl rfl rfl rfl rfl rfl)
  | heard _ changes => exact .inr changes

theorem exec_guarded {c : Instr} {s t : State} (noReset : isReset c = false) (run : exec c s = .next t) :
    BanksGuarded s t := by
  rcases kept_or_changes noReset run with kept | changes
  · exact kept.guarded
  rcases requested : requestOf c with _ | ⟨op, b⟩
  · cases c
    case transactionEnd bits clocked => cases run; exact transactionEnd_guarded bits clocked s
    all_goals cases requested
    all_goals exact fun k _ => changes.contents (fun _ => rfl) k
  · obtain ⟨own, owner, out⟩ := exec_of_requestOf requested
    rw [out] at run
    cases run
    split
    · exact (request_guarded owner b s).then_kept (.expireWhere _ _)
    · exact request_guarded owner b s

/-! ## The applied offset at an index arrival -/

/-- One step of the applied offset is at most the step in force (R143). -/
theorem slew_natAbs_le (step : Nat) (applied target : Int) : (slew step applied target - applied).natAbs ≤ step := by
  unfold slew
  split <;> omega

theorem Drm.counted_applied_le (d : Drm) : (d.counted.applied - d.applied).natAbs ≤ d.config.step := by
  unfold Drm.counted
  split
  · exact slew_natAbs_le _ _ _
  · simp

theorem takeShare_kept (slipped : Bool) (s : State) {x : Share} (notDrift : x ≠ .drift) : Kept s (takeShare slipped s x) :=
  Changes.kept (c := .actionComplete) (takeShare_changes slipped s notDrift) rfl fun _ => rfl

theorem shares_kept (slipped : Bool) {order : List Share} (noDrift : .drift ∉ order) (s : State) :
    Kept s (order.foldl (takeShare slipped) s) :=
  List.foldlRecOn order (motive := Kept s) (takeShare slipped) (.refl s) fun t kept _ mem =>
    kept.trans (takeShare_kept slipped t fun same => noDrift (same ▸ mem))

/-- The drift monitor's count is taken exactly once among the shares. -/
theorem fullOrder_split (order : List Share) :
    ∃ before after, fullOrder order = before ++ .drift :: after ∧ .drift ∉ before ∧ .drift ∉ after := by
  have mem : Share.drift ∈ fullOrder order := (fullOrder_perm order).mem_iff.mpr (by decide)
  obtain ⟨before, after, split⟩ := List.append_of_mem mem
  have once := split ▸ fullOrder_nodup order
  refine ⟨before, after, split, fun h => ?_, (List.nodup_cons.mp (List.nodup_append.mp once).2.1).1⟩
  exact (List.nodup_append.mp once).2.2 _ h _ (.head _) rfl

/-- The drift monitor's share stands between states that keep what it does not count. -/
theorem indexArrival_counts (home contact convalid : Bool) (order : List Share) (s : State) :
    ∃ u, Kept s u ∧ Kept (u.modDrm Drm.counted) (indexEvent home contact convalid order s) := by
  obtain ⟨before, after, split, clean, clean'⟩ := fullOrder_split order
  refine ⟨before.foldl (takeShare (slipFound home (advanceRing s))) (arrive home contact convalid s),
    (Kept.arrive home contact convalid s).trans (shares_kept _ clean _), ?_⟩
  unfold indexEvent indexArrival
  rw [split, List.foldl_append, List.foldl_cons]
  exact (shares_kept _ clean' _).trans (.expireWhere _ _)

theorem indexEvent_applied_le (home contact convalid : Bool) (order : List Share) (s : State) :
    ((indexEvent home contact convalid order s).drm.applied - s.drm.applied).natAbs ≤ s.drm.config.step := by
  obtain ⟨u, before, after⟩ := indexArrival_counts home contact convalid order s
  have counted := u.drm.counted_applied_le
  rw [before.applied, before.driftConfig] at counted
  rwa [after.applied]

theorem whileRunning_applied_le {s : State} {f : State → State}
    (moves : ((f s).drm.applied - s.drm.applied).natAbs ≤ s.drm.config.step) :
    ((whileRunning s f).drm.applied - s.drm.applied).natAbs ≤ s.drm.config.step := by
  unfold whileRunning
  split
  · simp
  · exact moves

/-- The applied offset moves by at most the step (R143). -/
theorem exec_applied_le {c : Instr} {s t : State} (noReset : isReset c = false) (run : exec c s = .next t) :
    (t.drm.applied - s.drm.applied).natAbs ≤ s.drm.config.step := by
  cases index : indexes c with
  | false =>
    have same : t.drm.applied = s.drm.applied := by
      rcases kept_or_changes noReset run with kept | changes
      · exact kept.applied
      · exact changes.steady.applied index
    rw [same]; simp
  | true =>
    cases c
    case indexArrival => cases run; exact whileRunning_applied_le (indexEvent_applied_le _ _ _ _ s)
    case periodWrap =>
      cases run
      refine whileRunning_applied_le ?_
      split
      · exact indexEvent_applied_le _ _ _ _ s
      · simp
    all_goals cases index

/-- Settles O60. -/
theorem onlySomeCommandsChange : Obligations.OnlySomeCommandsChange := by
  unfold Obligations.OnlySomeCommandsChange
  intro c s t noReset run
  have steady : Steady c s t := by
    rcases kept_or_changes noReset run with kept | changes
    · exact kept.steady
    · exact changes.steady
  have track : TrackStill c s t := by
    cases happens_of_exec run with
    | reset _ _ _ reset => exact absurd (reset.symm.trans noReset) nofun
    | releaseTrip => exact .of_ptk (tripTrigger_ptk _ _)
    | release | pin | unheard => exact .of_ptk rfl
    | heard _ changes => exact changes.trackStill
  have only {b : Bool} {P : Prop} (still : b = false → ¬P) (changed : P) : b = true :=
    Bool.eq_true_of_not_eq_false fun no => still no changed
  refine ⟨only fun no ⟨f, was, gone⟩ => ?_, fun was left => only (fun no => not_not.mpr (steady.tripped no was)) left,
    only fun no => not_not.mpr (track.ring no), only fun no => not_not.mpr (track.serial no),
    only fun no => not_not.mpr (track.indexCount no), fun k h => ?_, only fun no => not_not.mpr (steady.driftConfig no),
    only fun no => not_not.mpr (steady.tripConfig no),
    fun b => ⟨only fun no => not_not.mpr (steady.boxSeq no b), only fun no => not_not.mpr (steady.capacity no b)⟩,
    only fun no => not_not.mpr (steady.applied no), exec_applied_le noReset run⟩
  · exact absurd ((steady.flags no f was).symm.trans gone) nofun
  · have contents := exec_guarded noReset run k h
    simp only [Bank.contents, Prod.mk.injEq] at contents
    exact contents

end Sys2Proof.Machine
end

section
/-! PROOF. The layouts of Table 10.10 and what the payloads are read as (R183, R188): a field of n bytes is its value's layout
exactly where the bytes are read as that value. -/

namespace Sys2Proof.Machine

/-! ## Fields of several bytes (R183) -/

theorem natOf_cons (b : Byte) (bs : List Byte) : natOf (b :: bs) = b.toNat * 256 ^ bs.length + natOf bs := by
  have shift (n : Nat) : bs.foldl (fun acc b => acc * 256 + b.toNat) n = n * 256 ^ bs.length + natOf bs := by
    unfold natOf
    induction bs generalizing n with
    | nil => simp
    | cons x xs ih =>
      rw [List.foldl_cons, List.foldl_cons, ih, ih (0 * 256 + x.toNat), List.length_cons]
      ring
  rw [natOf, List.foldl_cons, shift]
  simp

theorem natOf_lt (bs : List Byte) : natOf bs < 256 ^ bs.length := by
  induction bs with
  | nil => simp [natOf]
  | cons b bs ih =>
    have byteLt : b.toNat < 256 := b.isLt
    rw [natOf_cons, List.length_cons, pow_succ]
    nlinarith

@[simp] theorem bytesOf_length (n x : Nat) : (bytesOf n x).length = n := by
  induction n with
  | zero => rfl
  | succ n ih => rw [bytesOf, List.length_cons, ih]

theorem bytesOf_getElem? (n x i : Nat) :
    (bytesOf n x)[i]? = if i < n then some (BitVec.ofNat 8 (x / 256 ^ (n - 1 - i))) else none := by
  induction n generalizing i with
  | zero => simp [bytesOf]
  | succ n ih =>
    cases i with
    | zero => simp [bytesOf]
    | succ i =>
      rw [bytesOf, List.getElem?_cons_succ, ih]
      simp only [Nat.add_lt_add_iff_right, Nat.add_sub_cancel, show n - (i + 1) = n - 1 - i by omega]

/-- Only the low bytes of a value are sent. -/
theorem natOf_bytesOf (n x : Nat) : natOf (bytesOf n x) = x % 256 ^ n := by
  induction n with
  | zero => simp [bytesOf, natOf, Nat.mod_one]
  | succ n ih =>
    rw [bytesOf, natOf_cons, bytesOf_length, ih, BitVec.toNat_ofNat, pow_succ 256 n, Nat.mod_mul (a := 256 ^ n) (b := 256),
      Nat.mul_comm, Nat.add_comm]

theorem bytesOf_natOf (bs : List Byte) : bytesOf bs.length (natOf bs) = bs := by
  have rest (n x : Nat) (c : Nat) : bytesOf n (c * 256 ^ n + x) = bytesOf n x := by
    apply List.ext_getElem?
    intro i
    simp only [bytesOf_getElem?]
    split
    next below =>
      have split : c * 256 ^ n = 256 ^ (n - 1 - i) * (256 * (c * 256 ^ i)) := by
        rw [show n = (n - 1 - i) + 1 + i by omega, pow_add, pow_add]
        simp only [show n - 1 - i + 1 + i - 1 - i = n - 1 - i by omega]
        ring
      rw [split, Nat.mul_add_div (by positivity)]
      congr 1
      apply BitVec.eq_of_toNat_eq
      simp only [BitVec.toNat_ofNat]
      omega
    next => rfl
  induction bs with
  | nil => rfl
  | cons b bs ih =>
    have below := natOf_lt bs
    rw [List.length_cons, bytesOf, natOf_cons, rest, ih]
    congr 1
    rw [Nat.mul_comm, Nat.mul_add_div (by positivity), Nat.div_eq_of_lt below]
    simp

/-- A field of `n` bytes is the layout of a value that fits exactly where it is read as that value. -/
theorem eq_bytesOf_iff {bs : List Byte} {n x : Nat} (length : bs.length = n) (fits : x < 256 ^ n) :
    bs = bytesOf n x ↔ natOf bs = x := by
  subst length
  constructor
  · intro h; rw [h, natOf_bytesOf, Nat.mod_eq_of_lt fits]
  · rintro rfl; exact (bytesOf_natOf bs).symm

theorem eq_signedBytesOf_iff {bs : List Byte} {n : Nat} {x : Int} (length : bs.length = n)
    (low : -((256 ^ n : Nat) : Int) ≤ 2 * x) (high : 2 * x < ((256 ^ n : Nat) : Int)) :
    bs = signedBytesOf n x ↔ intOf bs = x := by
  have positive : 0 < 256 ^ n := by positivity
  have below := natOf_lt bs
  rw [length] at below
  have wrapped : x % ((256 ^ n : Nat) : Int) = if 0 ≤ x then x else x + (256 ^ n : Nat) := by
    split
    next nonneg => exact Int.emod_eq_of_lt nonneg (by omega)
    next negative => rw [← Int.add_emod_right, Int.emod_eq_of_lt (by omega) (by omega)]
  rw [signedBytesOf, eq_bytesOf_iff length (by rw [wrapped]; split <;> omega), wrapped, intOf, length]
  split <;> split <;> omega

/-! ## Codes -/

theorem flagOf_eq_some_iff {b : Byte} {f : Bool} : flagOf b = some f ↔ b = flagByte f := by
  constructor
  · unfold flagOf
    split
    next zero => rintro ⟨⟩; exact zero
    next =>
      split
      next one => rintro ⟨⟩; exact one
      next => exact nofun
  · rintro rfl; exact flagOf_flagByte f

theorem sortBinOf_eq_some_iff {n : Byte} {b : SortBin} : sortBinOf n = some b ↔ n = byte (b.val + 1) := by
  constructor
  · unfold sortBinOf
    split
    next range =>
      rintro ⟨⟩
      apply BitVec.eq_of_toNat_eq
      rw [byte_toNat (by simp only; omega)]
      simp only
      omega
    next => exact nofun
  · rintro rfl; exact sortBinOf_number b

theorem destOf_eq_some_iff {n : Byte} {d : Dest} : destOf n = some d ↔ n = byte d.number.val := by
  constructor
  · unfold destOf
    split
    next zero => rintro ⟨⟩; exact zero
    next =>
      intro h
      obtain ⟨b, number, rfl⟩ := Option.map_eq_some_iff.mp h
      exact sortBinOf_eq_some_iff.mp number
  · rintro rfl; exact destOf_number d

theorem actionKindOf_eq_some_iff {b : Byte} {k : ActionKind} : actionKindOf b = some k ↔ b = k.code := by
  constructor
  · unfold actionKindOf
    split
    next zero => rintro ⟨⟩; exact zero
    next =>
      split
      next one => rintro ⟨⟩; exact one
      next =>
        split
        next two => rintro ⟨⟩; exact two
        next => exact nofun
  · rintro rfl; exact actionKindOf_code k

theorem tripActionOf_eq_some_iff {b : Byte} {a : TripAction} : tripActionOf b = some a ↔ b = a.code := by
  constructor
  · unfold tripActionOf
    split
    next zero => rintro ⟨⟩; exact zero
    next =>
      split
      next one => rintro ⟨⟩; exact one
      next =>
        split
        next two => rintro ⟨⟩; exact two
        next => exact nofun
  · rintro rfl; cases a <;> rfl

theorem spillOf_eq_some_iff {bs : List Byte} {bins : List SortBin} :
    spillOf bs = some bins ↔ bs = bins.map fun b => byte (b.val + 1) := by
  induction bs generalizing bins with
  | nil => cases bins <;> simp [spillOf]
  | cons n bs ih =>
    cases bins with
    | nil =>
      rw [List.map_nil]
      simp only [spillOf, reduceCtorEq, iff_false]
      split <;> exact nofun
    | cons x xs =>
      rw [List.map_cons, List.cons.injEq, ← ih, ← sortBinOf_eq_some_iff]
      simp only [spillOf]
      split
      next number rest => simp [number, rest]
      next none_found =>
        simp only [reduceCtorEq, false_iff]
        rintro ⟨number, rest⟩
        exact none_found x xs number rest

/-! ## The payloads (Table 10.10) -/

theorem DriftConfig.inRange_iff_meets (c : DriftConfig) : c.inRange = true ↔ c.meets := by
  simp only [DriftConfig.inRange, DriftConfig.meets, Bool.and_eq_true, decide_eq_true_eq, and_assoc]

theorem byte_eq_iff {b : Byte} {n : Nat} (fits : n < 256) : b = byte n ↔ b.toNat = n := by
  constructor
  · rintro rfl; exact byte_toNat fits
  · rintro rfl; simp [byte]

theorem driftConfigBytes_length (c : DriftConfig) : (driftConfigBytes c).length = 8 := by simp [driftConfigBytes]

/-- Bytes spell a configuration that fits exactly where they are read as it. -/
theorem eq_driftConfigBytes_iff {st k h1 h0 a1 a0 i1 i0 : Byte} {c : DriftConfig} (range : c.meets) :
    [st, k, h1, h0, a1, a0, i1, i0] = driftConfigBytes c ↔
      c = { step := st.toNat, period := k.toNat, hysteresis := natOf [h1, h0], alarmLimit := natOf [a1, a0],
            interval := natOf [i1, i0] } := by
  obtain ⟨⟨_, stepLe⟩, ⟨_, periodLe⟩, hysteresisLe, ⟨_, limitLe⟩, intervalLe⟩ := range
  have fields : [st, k, h1, h0, a1, a0, i1, i0] = driftConfigBytes c ↔
      st = byte c.step ∧ k = byte c.period ∧ [h1, h0] = bytesOf 2 c.hysteresis ∧ [a1, a0] = bytesOf 2 c.alarmLimit ∧
        [i1, i0] = bytesOf 2 c.interval := by
    simp [driftConfigBytes, bytesOf, and_assoc]
  rw [fields, byte_eq_iff (by omega), byte_eq_iff (by omega), eq_bytesOf_iff (n := 2) rfl (by omega),
    eq_bytesOf_iff (n := 2) rfl (by omega), eq_bytesOf_iff (n := 2) rfl (by omega)]
  cases c
  simp only [DriftConfig.mk.injEq, eq_comm]

theorem driftConfigOf_eq_some_iff (p : List Byte) (c : DriftConfig) :
    driftConfigOf p = some c ↔ c.meets ∧ p = driftConfigBytes c := by
  constructor
  · intro h
    have range : c.meets := c.inRange_iff_meets.mp (inRange_of_driftConfigOf h)
    refine ⟨range, ?_⟩
    unfold driftConfigOf at h
    split at h
    · dsimp only at h
      split at h
      next => exact (eq_driftConfigBytes_iff range).mpr (Option.some.inj h).symm
      next => cases h
    · cases h
  · rintro ⟨range, bytes⟩
    have length := driftConfigBytes_length c
    rw [← bytes] at length
    match p, length with
    | [st, k, h1, h0, a1, a0, i1, i0], _ =>
      have value := (eq_driftConfigBytes_iff range).mp bytes
      simp only [driftConfigOf, ← value]
      exact if_pos (c.inRange_iff_meets.mpr range)

@[simp] theorem signedBytesOf_length (n : Nat) (x : Int) : (signedBytesOf n x).length = n := bytesOf_length n _

theorem lotBytes_length (l : Lot) : (lotBytes l).length = 20 := by simp [lotBytes]

/-- Bytes spell lot parameters in range exactly where each field is read as its parameter. -/
theorem eq_lotBytes_iff {n2 n1 n0 f c1 c0 t1 t0 g1 g0 ve a1 a0 rl d2 d1 d0 k1 k0 rb : Byte} {l : Lot} (range : l.meets) :
    [n2, n1, n0, f, c1, c0, t1, t0, g1, g0, ve, a1, a0, rl, d2, d1, d0, k1, k0, rb] = lotBytes l ↔
      flagOf ve = some l.verify ∧ sortBinOf rb = some l.refBin ∧
        l = { nominal := natOf [n2, n1, n0], exponent := intOf [f], tcr := intOf [c1, c0], tref := intOf [t1, t0],
              guardBand := natOf [g1, g0], verify := l.verify, agreement := natOf [a1, a0], retestLimit := rl.toNat,
              refCertified := intOf [d2, d1, d0], refTcr := intOf [k1, k0], refBin := l.refBin } := by
  obtain ⟨⟨_, nominal⟩, ⟨_, _⟩, ⟨_, _⟩, ⟨_, _⟩, guardBand, ⟨_, agreement⟩, retestLimit, ⟨_, _⟩, ⟨_, _⟩⟩ := range
  have fields : [n2, n1, n0, f, c1, c0, t1, t0, g1, g0, ve, a1, a0, rl, d2, d1, d0, k1, k0, rb] = lotBytes l ↔
      [n2, n1, n0] = bytesOf 3 l.nominal ∧ [f] = signedBytesOf 1 l.exponent ∧ [c1, c0] = signedBytesOf 2 l.tcr ∧
        [t1, t0] = signedBytesOf 2 l.tref ∧ [g1, g0] = bytesOf 2 l.guardBand ∧ ve = flagByte l.verify ∧
        [a1, a0] = bytesOf 2 l.agreement ∧ rl = byte l.retestLimit ∧ [d2, d1, d0] = signedBytesOf 3 l.refCertified ∧
        [k1, k0] = signedBytesOf 2 l.refTcr ∧ rb = byte (l.refBin.val + 1) := by
    simp [lotBytes, signedBytesOf, bytesOf, and_assoc]
  rw [fields, eq_bytesOf_iff (n := 3) rfl (by omega), eq_signedBytesOf_iff (n := 1) rfl (by omega) (by omega),
    eq_signedBytesOf_iff (n := 2) rfl (by omega) (by omega), eq_signedBytesOf_iff (n := 2) rfl (by omega) (by omega),
    eq_bytesOf_iff (n := 2) rfl (by omega), ← flagOf_eq_some_iff, eq_bytesOf_iff (n := 2) rfl (by omega),
    byte_eq_iff (by omega), eq_signedBytesOf_iff (n := 3) rfl (by omega) (by omega),
    eq_signedBytesOf_iff (n := 2) rfl (by omega) (by omega), ← sortBinOf_eq_some_iff]
  rcases l with ⟨nominal, exponent, tcr, tref, guardBand, verify, agreement, retestLimit, refCertified, refTcr, refBin⟩
  simp only [Lot.mk.injEq, true_and, and_true]
  constructor
  · rintro ⟨rfl, rfl, rfl, rfl, rfl, hv, rfl, rfl, rfl, rfl, hb⟩
    exact ⟨hv, hb, rfl, rfl, rfl, rfl, rfl, rfl, rfl, rfl, rfl⟩
  · rintro ⟨hv, hb, rfl, rfl, rfl, rfl, rfl, rfl, rfl, rfl, rfl⟩
    exact ⟨rfl, rfl, rfl, rfl, rfl, hv, rfl, rfl, rfl, rfl, hb⟩

theorem lotOf_eq_some_iff (p : List Byte) (l : Lot) : lotOf p = some l ↔ l.meets ∧ p = lotBytes l := by
  constructor
  · intro h
    have range := meets_of_lotOf h
    refine ⟨range, ?_⟩
    unfold lotOf at h
    split at h
    · split at h
      next flag bin =>
        dsimp only at h
        split at h
        next =>
          obtain rfl := Option.some.inj h
          exact (eq_lotBytes_iff range).mpr ⟨flag, bin, rfl⟩
        next => cases h
      next => cases h
    · cases h
  · rintro ⟨range, bytes⟩
    have length := lotBytes_length l
    rw [← bytes] at length
    match p, length with
    | [n2, n1, n0, f, c1, c0, t1, t0, g1, g0, ve, a1, a0, rl, d2, d1, d0, k1, k0, rb], _ =>
      obtain ⟨flag, bin, value⟩ := (eq_lotBytes_iff range).mp bytes
      simp only [lotOf, flag, bin, ← value]
      exact if_pos (l.inRange_iff_meets.mpr range)

/-- The first nine bytes of a window entry: its flag, bounds, primary bin and spill count. -/
def entryHead (w : WindowEntry) : List Byte :=
  [flagByte w.valid] ++ signedBytesOf 3 w.lower ++ signedBytesOf 3 w.upper ++ [byte (w.primary.val + 1), byte w.spill.length]

theorem entryHead_length (w : WindowEntry) : (entryHead w).length = 9 := by simp [entryHead]

/-- A window entry's bytes up to its spill count's last bin. -/
theorem entryBytes_take {w : WindowEntry} (count : w.spill.length ≤ 3) :
    (entryBytes w).take (9 + w.spill.length) = entryHead w ++ w.spill.map fun b : SortBin => byte (b.val + 1) := by
  have split : entryBytes w = entryHead w ++ ((w.spill.map fun b : SortBin => byte (b.val + 1)) ++ [0, 0, 0]).take 3 := rfl
  have here : 9 + w.spill.length = (entryHead w).length + w.spill.length := by rw [entryHead_length]
  rw [split, here, List.take_length_add_append, List.take_take, Nat.min_eq_left count]
  congr 1
  exact List.take_left' (List.length_map ..)

theorem eq_entryHead_iff {v l2 l1 l0 u2 u1 u0 pb n : Byte} {w : WindowEntry} (range : w.meets) :
    [v, l2, l1, l0, u2, u1, u0, pb, n] = entryHead w ↔
      flagOf v = some w.valid ∧ sortBinOf pb = some w.primary ∧ n.toNat = w.spill.length ∧
        intOf [l2, l1, l0] = w.lower ∧ intOf [u2, u1, u0] = w.upper := by
  obtain ⟨⟨_, _⟩, ⟨_, _⟩, _, count, _⟩ := range
  have fields : [v, l2, l1, l0, u2, u1, u0, pb, n] = entryHead w ↔
      v = flagByte w.valid ∧ [l2, l1, l0] = signedBytesOf 3 w.lower ∧ [u2, u1, u0] = signedBytesOf 3 w.upper ∧
        pb = byte (w.primary.val + 1) ∧ n = byte w.spill.length := by
    simp [entryHead, signedBytesOf, bytesOf, and_assoc]
  rw [fields, ← flagOf_eq_some_iff, eq_signedBytesOf_iff (n := 3) rfl (by omega) (by omega),
    eq_signedBytesOf_iff (n := 3) rfl (by omega) (by omega), ← sortBinOf_eq_some_iff, byte_eq_iff (by omega)]
  exact ⟨fun ⟨flag, lower, upper, bin, count⟩ => ⟨flag, bin, count, lower, upper⟩,
    fun ⟨flag, bin, count, lower, upper⟩ => ⟨flag, lower, upper, bin, count⟩⟩

theorem entryOf_eq_some_iff (p : List Byte) (w : WindowEntry) : entryOf p = some w ↔
    w.meets ∧ p.length = 12 ∧ p.take (9 + w.spill.length) = (entryBytes w).take (9 + w.spill.length) := by
  have spelled {v l2 l1 l0 u2 u1 u0 pb n s1 s2 s3 : Byte} (range : w.meets) :
      [v, l2, l1, l0, u2, u1, u0, pb, n, s1, s2, s3].take (9 + w.spill.length) = (entryBytes w).take (9 + w.spill.length) ↔
        [v, l2, l1, l0, u2, u1, u0, pb, n] = entryHead w ∧ spillOf ([s1, s2, s3].take w.spill.length) = some w.spill := by
    have split : [v, l2, l1, l0, u2, u1, u0, pb, n, s1, s2, s3].take (9 + w.spill.length) =
        [v, l2, l1, l0, u2, u1, u0, pb, n] ++ [s1, s2, s3].take w.spill.length :=
      List.take_length_add_append (l₁ := [v, l2, l1, l0, u2, u1, u0, pb, n]) (l₂ := [s1, s2, s3]) w.spill.length
    rw [split, entryBytes_take range.2.2.2.1, spillOf_eq_some_iff]
    exact ⟨fun h => List.append_inj h (entryHead_length w).symm, fun ⟨head, bins⟩ => by rw [head, bins]⟩
  constructor
  · intro h
    have range := meets_of_entryOf h
    unfold entryOf at h
    split at h
    · split at h
      next flag bin spill =>
        dsimp only at h
        split at h
        next fits =>
          obtain rfl := Option.some.inj h
          have count := congrArg List.length (spillOf_eq_some_iff.mp spill)
          rw [List.length_map, List.length_take, List.length_cons, List.length_cons, List.length_cons, List.length_nil,
            Nat.min_eq_left fits.1] at count
          refine ⟨range, rfl, (spelled range).mpr ⟨(eq_entryHead_iff range).mpr ⟨flag, bin, count, rfl, rfl⟩, ?_⟩⟩
          dsimp only
          rw [← count]
          exact spill
        next => cases h
      next => cases h
    · cases h
  · rintro ⟨range, length, bytes⟩
    match p, length with
    | [v, l2, l1, l0, u2, u1, u0, pb, n, s1, s2, s3], _ =>
      obtain ⟨head, spill⟩ := (spelled range).mp bytes
      obtain ⟨flag, bin, count, lower, upper⟩ := (eq_entryHead_iff range).mp head
      simp only [entryOf, flag, bin, count, spill, lower, upper]
      exact if_pos ⟨range.2.2.2.1, w.inRange_iff_meets.mpr range⟩

theorem classActionOf_eq_some_iff (k b o g : Byte) (a : ClassAction) :
    classActionOf k b o g = some a ↔ actionBytes a = [k, b, o, g] := by
  refine ⟨fun h => ?_, classActionOf_of_bytes⟩
  unfold classActionOf at h
  split at h
  next kind dest override good =>
    obtain rfl := Option.some.inj h
    rw [actionBytes, actionKindOf_eq_some_iff.mp kind, destOf_eq_some_iff.mp dest, flagOf_eq_some_iff.mp override,
      flagOf_eq_some_iff.mp good]
  next => cases h

theorem tripConfigOf_eq_some_iff (a h m : Byte) (c : TripConfig) :
    tripConfigOf a h m = some c ↔ tripConfigBytes c = [a, h, m] := by
  constructor
  · intro read
    unfold tripConfigOf at read
    split at read
    next action halt onMeterFault =>
      obtain rfl := Option.some.inj read
      rw [tripConfigBytes, tripActionOf_eq_some_iff.mp action, flagOf_eq_some_iff.mp halt,
        flagOf_eq_some_iff.mp onMeterFault]
    next => cases read
  · intro bytes
    simp only [tripConfigBytes, List.cons.injEq, and_true] at bytes
    obtain ⟨rfl, rfl, rfl⟩ := bytes
    simp only [tripConfigOf, tripActionOf_eq_some_iff.mpr rfl, flagOf_flagByte]

/-! ## The ring (R188) -/

theorem ringOf_gate (p : List Byte) (b : SortBin) : (ringOf p).gates[b] = (p[5 + b.val]?.getD 0).toNat := by
  fin_cases b <;> rfl

theorem ringBytes_gate (r : Ring) (b : SortBin) : (ringBytes r)[5 + b.val]? = some (byte r.gates[b]) := by
  have inside : b.val < (r.gates.toList.map byte).length := by simp
  rw [ringBytes, List.append_assoc, List.getElem?_append_right (by simp)]
  simp only [List.length_cons, List.length_nil, Nat.zero_add, Nat.reduceAdd, Nat.add_sub_cancel_left]
  rw [List.getElem?_append_left inside]
  simp

theorem ringBytes_tail (r : Ring) : (ringBytes r)[20]? = some (byte r.sweep) ∧ (ringBytes r)[21]? = some (byte r.pulseWidth) := by
  have length : (r.gates.toList.map byte).length = 15 := by simp
  constructor <;>
    · rw [ringBytes, List.getElem?_append_right (by simp [length])]
      simp [length]

theorem ringOf_ringBytes {r : Ring} (range : r.meets) : ringOf (ringBytes r) = r := by
  obtain ⟨⟨_, pockets⟩, contact, ⟨_, measure⟩, ⟨_, verify⟩, ⟨_, decision⟩, ⟨_, sweep⟩, ⟨_, pulseWidth⟩, _, _, _, gates⟩ := range
  have gatesRead : (ringOf (ringBytes r)).gates = r.gates := by
    ext i below
    have gate := gates ⟨i, below⟩
    have read := ringOf_gate (ringBytes r) ⟨i, below⟩
    rw [ringBytes_gate, Option.getD_some, byte_toNat (by omega)] at read
    exact read
  obtain ⟨sweepByte, widthByte⟩ := ringBytes_tail r
  have head : ∀ n, n < 256 → (byte n).toNat = n := fun n => byte_toNat
  calc ringOf (ringBytes r)
      = { pockets := (byte r.pockets).toNat, contact := (byte r.contact).toNat, measure := (byte r.measure).toNat,
          verify := (byte r.verify).toNat, decision := (byte r.decision).toNat, gates := (ringOf (ringBytes r)).gates,
          sweep := ((ringBytes r)[20]?.getD 0).toNat, pulseWidth := ((ringBytes r)[21]?.getD 0).toNat } := rfl
    _ = r := by
      rw [gatesRead, sweepByte, widthByte, Option.getD_some, Option.getD_some, head _ (by omega), head _ (by omega),
        head _ (by omega), head _ (by omega), head _ (by omega), head _ (by omega), head _ (by omega)]

theorem ringBytes_ringOf {p : List Byte} (length : p.length = 22) : ringBytes (ringOf p) = p := by
  match p, length with
  | [a, b, c, d, e, f, g, h, i, j, k, l, m, n, o, q, r, s, t, u, v, w], _ =>
    simp [ringBytes, ringOf, byte]

/-- A window entry's bytes are its head, its spill bins, and 0 in their place. -/
theorem entryBytes_of_count {w : WindowEntry} (count : w.spill.length ≤ 3) :
    entryBytes w =
      entryHead w ++ ((w.spill.map fun b : SortBin => byte (b.val + 1)) ++ List.replicate (3 - w.spill.length) 0) := by
  have split : entryBytes w = entryHead w ++ ((w.spill.map fun b : SortBin => byte (b.val + 1)) ++ [0, 0, 0]).take 3 := rfl
  have zeros : ([0, 0, 0] : List Byte).take (3 - w.spill.length) = List.replicate (3 - w.spill.length) 0 := by
    rw [show ([0, 0, 0] : List Byte) = List.replicate 3 0 from rfl, List.take_replicate, Nat.min_eq_left (by omega)]
  rw [split, List.take_append, List.length_map, zeros, List.take_of_length_le (by rw [List.length_map]; exact count)]

/-- Settles O17. -/
theorem configurationPayloadsRoundTrip : Obligations.ConfigurationPayloadsRoundTrip := by
  unfold Obligations.ConfigurationPayloadsRoundTrip
  intro u8 flag binNo
  refine ⟨⟨bytesOf_getElem?, fun n x => ?signed⟩, ⟨rfl, rfl, rfl, rfl, rfl⟩,
    ⟨fun _ => rfl, fun _ => rfl, fun w count => ?entry, fun a => ?action, fun _ => rfl, fun _ => rfl⟩,
    ⟨fun r => r.valid_iff_meets, fun l => l.inRange_iff_meets, fun w => w.inRange_iff_meets, fun c => c.inRange_iff_meets⟩,
    fun _ => ringOf_ringBytes, fun _ => ringBytes_ringOf, lotOf_eq_some_iff, entryOf_eq_some_iff,
    classActionOf_eq_some_iff, driftConfigOf_eq_some_iff, tripConfigOf_eq_some_iff⟩
  case signed => rw [signedBytesOf]; push_cast; rfl
  case entry =>
    rw [entryBytes_of_count count, ← List.append_assoc]
    rfl
  case action => rcases a with ⟨kind, _ | b, ovr, good⟩ <;> rfl

end Sys2Proof.Machine
end

section
/-! PROOF. The drift monitor's count of an index arrival, its overdue accounting, and its requests (R143, R146, R149, R151). -/

namespace Sys2Proof.Machine

/-! ## The period count and the slew (R143) -/

theorem Drm.wraps_iff (d : Drm) : d.wraps = true ↔ d.config.period ≤ d.periodCount + 1 := decide_eq_true_iff

theorem slew_eq (step : Nat) (applied target : Int) :
    slew step applied target =
      if applied < target then min (applied + step) target else max (applied - step) target := by
  unfold slew
  split <;> omega

theorem Drm.counted_of_wrap {d : Drm} (wraps : d.config.period ≤ d.periodCount + 1) :
    d.counted = { d with periodCount := 0, applied := slew d.config.step d.applied d.target } :=
  if_pos (d.wraps_iff.mpr wraps)

theorem Drm.counted_of_short {d : Drm} (short : d.periodCount + 1 < d.config.period) :
    d.counted = { d with periodCount := d.periodCount + 1 } :=
  if_neg (mt d.wraps_iff.mp (Nat.not_le.mpr short))

theorem exec_periodWrap {s : State} (running : s.ttp.held = false) :
    exec .periodWrap s = .next (if s.drm.wraps then indexEvent false false false [] s else s) :=
  congrArg Host.Outcome.next (whileRunning_of_running running _)

/-- An index arrival at which the period count reaches its period starts the count anew. -/
theorem indexEvent_periodCount {s : State} (wraps : s.drm.config.period ≤ s.drm.periodCount + 1)
    (home contact convalid : Bool) (order : List Share) :
    (indexEvent home contact convalid order s).drm.periodCount = 0 := by
  obtain ⟨u, before, after⟩ := indexArrival_counts home contact convalid order s
  have wrapped : u.drm.config.period ≤ u.drm.periodCount + 1 := by
    rw [before.driftConfig, before.periodCount]; exact wraps
  rw [after.periodCount, State.modDrm_drm, Drm.counted_of_wrap wrapped]

/-! ## The overdue accounting (R146) -/

theorem Drm.episodeBegins_iff (d : Drm) :
    d.episodeBegins = true ↔
      d.config.interval ≠ 0 ∧ d.config.interval < d.overdueCount.toNat ∧ d.overdueFlag = false := by
  simp only [Drm.episodeBegins, Bool.and_eq_true, bne_iff_ne, decide_eq_true_eq, Bool.not_eq_true', and_assoc]

theorem productLoad_of_begins {s : State} (begins : s.drm.loaded.episodeBegins = true) :
    productLoad s = { s with drm := { s.drm.loaded with overdueFlag := true } }.raise .refOverdue :=
  if_pos begins

theorem productLoad_of_not_begins {s : State} (other : ¬s.drm.loaded.episodeBegins = true) :
    productLoad s = { s with drm := s.drm.loaded } := if_neg other

theorem exec_overdueEpisodeStart {s : State} (running : s.ttp.held = false) :
    exec .overdueEpisodeStart s = .next (if loadBeginsEpisode s then loadEvent false s else s) :=
  congrArg Host.Outcome.next (whileRunning_of_running running _)

/-- A product load begins an episode where it creates a measured record whose report begins one. -/
theorem loadBeginsEpisode_iff (s : State) :
    loadBeginsEpisode s = true ↔
      s.record (pocketAt s 0) = none ∧ s.ptk.opState = .run ∧ s.drm.loaded.episodeBegins = true := by
  simp [loadBeginsEpisode, loadAdmitted, and_assoc]

/-- The load arrival of an admitted product at an EMPTY pocket makes the record and then the report (R15, R16). -/
theorem loadArrival_of_product {s : State} (empty : s.record (pocketAt s 0) = none) (run : s.ptk.opState = .run) :
    loadArrival false s = productLoad (createRecord s (pocketAt s 0) .measuring (activeBank s) false) := by
  have admitted : loadAdmitted s false = true := by simp [loadAdmitted, run]
  simp only [loadArrival, empty, admitted]
  rfl

/-- A load's record leaves the drift monitor. -/
theorem createRecord_drm (s : State) (p : PocketNo) (st : PartState) (tag : Option BankId) (refsel : Bool) :
    (createRecord s p st tag refsel).drm = s.drm := by
  rw [createRecord_frame]

/-- What the load that begins an episode leaves of the drift monitor, its flag and the serial counter. -/
theorem loadEvent_of_episode {s : State} (empty : s.record (pocketAt s 0) = none) (run : s.ptk.opState = .run)
    (begins : s.drm.loaded.episodeBegins = true) :
    (loadEvent false s).drm = { s.drm.loaded with overdueFlag := true } ∧
      (loadEvent false s).svl.attention.refOverdue = true ∧ (loadEvent false s).ptk.serial = s.ptk.serial + 1 := by
  have out : loadArrival false { s with ttp := { s.ttp with loadLevel := true } } = _ := loadArrival_of_product empty run
  unfold loadEvent settleTimers
  rw [out, productLoad_of_begins (by rw [createRecord_drm]; exact begins), createRecord_drm]
  refine ⟨by rw [expireWhere_frame]; rfl, (Kept.expireWhere _ _).flags .refOverdue rfl, ?_⟩
  rw [expireWhere_frame, createRecord_frame]
  rfl

/-- Settles O41. -/
theorem periodWrapsAndEpisodes : Obligations.PeriodWrapsAndEpisodes := by
  unfold Obligations.PeriodWrapsAndEpisodes
  intro s moved count begins
  have begins_iff : s.drm.loaded.episodeBegins = true ↔ begins count := s.drm.loaded.episodeBegins_iff
  refine ⟨fun slipped => ⟨fun wraps => ?wrapped, fun short => ?short⟩, fun begin1 => ?begins, fun other => ?counts,
    fun running => ⟨fun wraps => ?wraps, fun short => ?noWrap, fun empty run begin1 => ?episode, fun other => ?noEpisode⟩⟩
  case wrapped =>
    refine congrArg (fun d => { s with drm := d }) ((Drm.counted_of_wrap wraps).trans ?_)
    rw [slew_eq]
  case short => exact congrArg (fun d => { s with drm := d }) (Drm.counted_of_short short)
  case begins => exact productLoad_of_begins (begins_iff.mpr begin1)
  case counts => exact productLoad_of_not_begins (mt begins_iff.mp other)
  case wraps =>
    have arrival : exec .periodWrap s = .next (indexEvent false false false [] s) := by
      rw [exec_periodWrap running, if_pos (s.drm.wraps_iff.mpr wraps)]
    have still : TrackStill .actionComplete (arrive false false false s) (indexEvent false false false [] s) :=
      shares_trackStill _ _ _ _
    refine ⟨arrival.trans ?_, _, arrival, indexEvent_periodCount wraps _ _ _ _, ?_, indexEvent_applied_le _ _ _ _ s⟩
    · exact (congrArg Host.Outcome.next (whileRunning_of_running running _)).symm
    · exact (still.indexCount rfl).trans (by rw [arrive_frame])
  case noWrap => rw [exec_periodWrap running, if_neg (mt s.drm.wraps_iff.mp (Nat.not_le.mpr short))]
  case episode =>
    have load : exec .overdueEpisodeStart s = .next (loadEvent false s) := by
      rw [exec_overdueEpisodeStart running, if_pos ((loadBeginsEpisode_iff s).mpr ⟨empty, run, begins_iff.mpr begin1⟩)]
    refine ⟨load.trans (congrArg Host.Outcome.next (whileRunning_of_running running _)).symm, _, load, ?_⟩
    obtain ⟨drm, flag, serial⟩ := loadEvent_of_episode empty run (begins_iff.mpr begin1)
    exact ⟨by rw [drm]; rfl, by rw [drm], flag, serial⟩
  case noEpisode =>
    rw [exec_overdueEpisodeStart running, if_neg]
    rw [loadBeginsEpisode_iff, begins_iff]
    rintro ⟨empty, run, begin1⟩
    exact other.elim (fun h => h empty) fun h => h.elim (fun h => h run) fun h => h begin1

/-! ## SET_DRIFT and CLEAR_DRIFT (R149, R151) -/

theorem exec_setDrift_of_takes {s : State} (taken : takesRequest s = true) {p : List Byte} (length : p.length = 8) :
    exec (.setDrift (bodyOf p)) s = .next ((ownSetDrift p s).1.answer 0x50 (ownSetDrift p s).2) :=
  congrArg Host.Outcome.next (request_bodyOf taken (by rw [length]; rfl) (by omega))

theorem exec_clearDrift_of_takes {s : State} (taken : takesRequest s = true) :
    exec (.clearDrift (bodyOf [])) s = .next ((ownClearDrift [] s).1.answer 0x52 (ownClearDrift [] s).2) :=
  congrArg Host.Outcome.next (request_bodyOf taken rfl (by decide))

theorem ownSetDrift_of_config {p : List Byte} {c : DriftConfig} (read : driftConfigOf p = some c) (s : State) :
    ownSetDrift p s = ({ s with drm := { s.drm with config := c } }, ⟨.ok, []⟩) := by
  simp only [ownSetDrift, read]; rfl

theorem ownSetDrift_of_none {p : List Byte} (read : driftConfigOf p = none) (s : State) :
    ownSetDrift p s = (s, ⟨.badValue, []⟩) := by
  simp only [ownSetDrift, read]; rfl

theorem ownClearDrift_of_clearable {s : State} (clearable : s.drm.clearable = true) :
    ownClearDrift [] s =
      ({ s with drm := { s.drm with latch := false } }, ⟨.ok, 0 :: sampleBytes s.drm.lastSample⟩) := if_pos clearable

theorem ownClearDrift_of_refused {s : State} (refused : ¬s.drm.clearable = true) :
    ownClearDrift [] s = (s, ⟨.condition, flagByte s.drm.latch :: sampleBytes s.drm.lastSample⟩) := if_neg refused

theorem Drm.clearable_iff {d : Drm} {v : Int} (sample : d.lastSample = some v) :
    d.clearable = true ↔ v.natAbs ≤ d.config.alarmLimit := by
  simp only [Drm.clearable, sample, decide_eq_true_eq]

/-- Settles O42. -/
theorem driftRequestsSetAndClear : Obligations.DriftRequestsSetAndClear := by
  unfold Obligations.DriftRequestsSetAndClear
  intro s taken
  refine ⟨fun c range => ?set, fun p length outside => ?refused, fun noSample => ?absent,
    fun v sample => ⟨fun within => ?cleared, fun beyond => ?alarmed⟩⟩
  case set =>
    rw [exec_setDrift_of_takes taken (driftConfigBytes_length c),
      ownSetDrift_of_config ((driftConfigOf_eq_some_iff _ c).mpr ⟨range, rfl⟩)]
  case refused =>
    have read : driftConfigOf p = none := Option.eq_none_iff_forall_ne_some.mpr fun c read =>
      have ⟨range, bytes⟩ := (driftConfigOf_eq_some_iff p c).mp read
      outside c range bytes.symm
    rw [exec_setDrift_of_takes taken length, ownSetDrift_of_none read]
  case absent =>
    rw [exec_clearDrift_of_takes taken, ownClearDrift_of_refused (by simp [Drm.clearable, noSample]), noSample]
    rfl
  case cleared =>
    rw [exec_clearDrift_of_takes taken, ownClearDrift_of_clearable ((Drm.clearable_iff sample).mpr within), sample]
    rfl
  case alarmed =>
    rw [exec_clearDrift_of_takes taken,
      ownClearDrift_of_refused (mt (Drm.clearable_iff sample).mp (Nat.not_le.mpr beyond)), sample]
    rfl

end Sys2Proof.Machine
end

section
/-! PROOF. ACTIVATE with its validations and the switch (R91 to R93), and the end of a bank's draining (R94). -/

namespace Sys2Proof.Machine

/-! ## The validations (R92, Table 5.5) -/

theorem entries_any_iff (v : Vector WindowEntry 16) (test : WindowEntry → Bool) :
    v.toList.any test = true ↔ ∃ e : Fin 16, test v[e] = true := by
  rw [Vector.any_toList, Vector.any_eq_true, Fin.exists_iff]; rfl

theorem entries_all_iff (v : Vector WindowEntry 16) (test : WindowEntry → Bool) :
    v.toList.all test = true ↔ ∀ e : Fin 16, test v[e] = true := by
  simp [Fin.forall_iff]

section
variable (s : State) (k : Bank)

/-- Check 1: some entry is valid. -/
def Bank.anyValid : Prop := ∃ e : Fin 16, (k.entries[e]).valid = true

/-- Check 2: every valid entry's window holds twice the guard band. -/
def Bank.allWide : Prop :=
  ∀ e : Fin 16, (k.entries[e]).valid = true → 2 * (k.lot.guardBand : Int) ≤ (k.entries[e]).upper - (k.entries[e]).lower

/-- Check 3: VERIFY needs two ports. -/
def Bank.verifiable : Prop := k.lot.verify = true → s.ttp.mportsTwo = true

theorem any_valid_iff : k.entries.toList.any (fun w => w.valid) = true ↔ k.anyValid := entries_any_iff _ _

theorem all_wide_iff :
    k.entries.toList.all (fun w => !w.valid || decide (2 * (k.lot.guardBand : Int) ≤ w.upper - w.lower)) = true ↔
      k.allWide := by
  rw [entries_all_iff]
  simp only [Bank.allWide, Bool.or_eq_true, Bool.not_eq_true', decide_eq_true_eq, ← Bool.not_eq_true, imp_iff_not_or]

variable {s k}

theorem failingCheck_of_no_valid (h : ¬k.anyValid) : failingCheck s k = some 1 :=
  if_pos (Bool.eq_false_iff.mpr (mt (any_valid_iff k).mp h))

variable (valid : k.anyValid)
include valid

theorem failingCheck_of_narrow (h : ¬k.allWide) : failingCheck s k = some 2 := by
  rw [failingCheck, if_neg (by rw [(any_valid_iff k).mpr valid]; exact nofun),
    if_pos (Bool.eq_false_iff.mpr (mt (all_wide_iff k).mp h))]

variable (wide : k.allWide)
include wide

theorem failingCheck_of_wide :
    failingCheck s k = if k.lot.verify = true ∧ s.ttp.mportsTwo = false then some 3 else none := by
  rw [failingCheck, if_neg (by rw [(any_valid_iff k).mpr valid]; exact nofun),
    if_neg (by rw [(all_wide_iff k).mpr wide]; exact nofun)]

theorem failingCheck_of_unverifiable (h : ¬k.verifiable s) : failingCheck s k = some 3 := by
  rw [failingCheck_of_wide valid wide, if_pos]
  obtain ⟨verify, one⟩ := Classical.not_imp.mp h
  exact ⟨verify, Bool.eq_false_iff.mpr one⟩

theorem failingCheck_of_all (h : k.verifiable s) : failingCheck s k = none := by
  rw [failingCheck_of_wide valid wide, if_neg]
  rintro ⟨verify, one⟩
  exact absurd ((h verify).symm.trans one) nofun

end

/-! ## The owner's answers (R91) -/

section
variable {s : State} {k : BankId}

theorem exec_activate_of_takes (taken : takesRequest s = true) (code : Byte) :
    exec (.activate (bodyOf [code])) s = .next ((ownActivate [code] s).1.answer 0x34 (ownActivate [code] s).2) :=
  congrArg Host.Outcome.next (request_bodyOf taken rfl (by decide : 1 < 256))

theorem ownActivate_of_no_bank {code : Byte} (notA : code ≠ 1) (notB : code ≠ 2) :
    ownActivate [code] s = (s, ⟨.badValue, []⟩) := by
  simp only [ownActivate, bankOf_eq_none notA notB]; rfl

theorem ownActivate_of_tripped (tripped : s.ptk.opState = .tripped) :
    ownActivate [tagCode (some k)] s = (s, ⟨.wrongState, []⟩) := by
  simp only [ownActivate, bankOf_tagCode, if_pos tripped]; rfl

variable (running : s.ptk.opState ≠ .tripped)
include running

theorem ownActivate_of_active (active : (s.bank k).state = .active) :
    ownActivate [tagCode (some k)] s = (s, ⟨.ok, activatePayload s⟩) := by
  simp only [ownActivate, bankOf_tagCode, if_neg running, active]; rfl

theorem ownActivate_of_draining (draining : (s.bank k).state = .draining) :
    ownActivate [tagCode (some k)] s = (switchTo s k, ⟨.ok, activatePayload (switchTo s k)⟩) := by
  simp only [ownActivate, bankOf_tagCode, if_neg running, draining]; rfl

theorem ownActivate_of_failing (standby : (s.bank k).state = .standby) {n : Nat} (fails : failingCheck s (s.bank k) = some n) :
    ownActivate [tagCode (some k)] s = (s, ⟨.invalidSet, [byte n]⟩) := by
  simp only [ownActivate, bankOf_tagCode, if_neg running, standby, fails]

theorem ownActivate_of_valid (standby : (s.bank k).state = .standby) (valid : failingCheck s (s.bank k) = none) :
    ownActivate [tagCode (some k)] s =
      (switchTo (s.modCounts k fun _ => .zero) k, ⟨.ok, activatePayload (switchTo (s.modCounts k fun _ => .zero) k)⟩) := by
  simp only [ownActivate, bankOf_tagCode, if_neg running, standby, valid]; rfl

end

/-- A switch from STANDBY with its counters zeroed is one change of each bank (R93). -/
theorem switchTo_zeroed (s : State) (k : BankId) :
    switchTo (s.modCounts k fun _ => .zero) k =
      (s.modBank (otherBank k) Bank.replaced).modBank k fun b => { b with state := .active, counts := .zero } := by
  cases k <;> rfl

/-! ## The end of a draining (R94) -/

section
variable {s : State} {k : BankId}

theorem exec_bankReturns (running : s.ttp.held = false) (k : BankId) :
    exec (.bankReturnsToStandby k) s = .next (bankReturn s k) :=
  congrArg Host.Outcome.next (whileRunning_of_running running _)

theorem State.modBank_congr {f g : Bank → Bank} (h : f (s.bank k) = g (s.bank k)) : s.modBank k f = s.modBank k g := by
  cases k with
  | a => exact congrArg (fun b => { s with bankA := b }) h
  | b => exact congrArg (fun b => { s with bankB := b }) h

theorem departure_of_last (draining : (s.bank k).state = .draining) (last : (s.bank k).onRing ≤ 1) :
    departure s (some k) = (s.modBank k fun b => { b with onRing := 0, state := .standby }).raise .bankFree := by
  have gone : (s.bank k).onRing - 1 = 0 := by omega
  refine (if_pos ⟨draining, gone⟩).trans (congrArg (·.raise .bankFree) (State.modBank_congr ?_))
  rw [gone]

theorem departure_of_more (more : (s.bank k).state ≠ .draining ∨ 1 < (s.bank k).onRing) :
    departure s (some k) = s.modBank k fun b => { b with onRing := b.onRing - 1 } :=
  if_neg fun ⟨draining, last⟩ => more.elim (fun h => h draining) fun h => absurd last (by omega)

end

/-- Settles O30. -/
theorem activationAndDraining : Obligations.ActivationAndDraining := by
  unfold Obligations.ActivationAndDraining
  refine ⟨fun s taken => ⟨fun code notA notB => ?noBank, fun k => ?activate⟩, fun k s running => ?draining⟩
  case noBank => rw [exec_activate_of_takes taken, ownActivate_of_no_bank notA notB]
  case activate =>
    have run := exec_activate_of_takes taken (tagCode (some k))
    refine ⟨fun tripped => run.trans ?_, fun running => ⟨fun active => run.trans ?_, fun draining => run.trans ?_,
      fun standby => ⟨fun none_valid => run.trans ?_, fun valid narrow => run.trans ?_,
        fun valid wide unverifiable => run.trans ?_, fun valid wide verifiable => run.trans ?_⟩⟩⟩
    · rw [ownActivate_of_tripped tripped]
    · rw [ownActivate_of_active running active]; rfl
    · rw [ownActivate_of_draining running draining]; rfl
    · rw [ownActivate_of_failing running standby (failingCheck_of_no_valid none_valid)]; rfl
    · rw [ownActivate_of_failing running standby (failingCheck_of_narrow valid narrow)]; rfl
    · rw [ownActivate_of_failing running standby (failingCheck_of_unverifiable valid wide unverifiable)]; rfl
    · rw [ownActivate_of_valid running standby (failingCheck_of_all valid wide verifiable), switchTo_zeroed]; rfl
  case draining =>
    refine ⟨fun draining empty => ?_, fun other => ?_, rfl, departure_of_last, departure_of_more⟩
    · exact (exec_bankReturns running k).trans (congrArg Host.Outcome.next (if_pos ⟨draining, empty⟩))
    · exact (exec_bankReturns running k).trans (congrArg Host.Outcome.next (if_neg (not_and_or.mpr other)))

end Sys2Proof.Machine
end

section
/-! PROOF. A gate's fire and the sweep (R128 to R132): a pulse, the exit report in the part's bank (R105), and its departure
(R6, R94, R162). -/

namespace Sys2Proof.Machine

/-! ## A part leaves -/

/-- Whether a part's departure ends the draining of a bank (R94). -/
def frees (s : State) (r : Part) (k : BankId) : Prop :=
  r.tag = some k ∧ (s.bank k).state = .draining ∧ (s.bank k).onRing - 1 = 0

theorem departure_svl_frame (s : State) (tag : Option BankId) :
    (departure s tag).svl =
      { s.svl with attention := { s.svl.attention with bankFree := (departure s tag).svl.attention.bankFree } } := by
  unfold departure
  split
  · rfl
  · dsimp only
    split
    · rw [State.modBank_frame]; rfl
    · rw [State.modBank_frame]

theorem departure_bankFree_iff (s : State) (r : Part) :
    (departure s r.tag).svl.attention.bankFree = true ↔ s.svl.attention.bankFree = true ∨ ∃ k, frees s r k := by
  unfold departure frees
  split
  next untagged => simp [untagged]
  next k tagged =>
    dsimp only
    split
    next freed =>
      rw [State.modBank_frame]
      exact ⟨fun _ => .inr ⟨k, tagged, freed⟩, fun _ => rfl⟩
    next kept =>
      rw [State.modBank_frame]
      refine ⟨.inl, fun h => h.elim id ?_⟩
      rintro ⟨j, same, freed⟩
      obtain rfl := Option.some.inj (tagged.symm.trans same)
      exact absurd freed kept

/-- What a part's exit at a line and its departure leave (R6, R94, R105, R162). -/
structure Exited (s : State) (p : PocketNo) (r : Part) (l : Line) (t : State) : Prop where
  record : ∀ q, t.record q = if q = p then none else s.record q
  bank : ∀ k, t.bank k =
    if r.tag = some k then
      { s.bank k with
        onRing := (s.bank k).onRing - 1
        state := if (s.bank k).state = .draining ∧ (s.bank k).onRing - 1 = 0 then .standby else (s.bank k).state
        counts := (s.bank k).counts.exited (s.bank k) r l }
    else s.bank k
  svl : t.svl = { s.svl with attention := { s.svl.attention with bankFree := t.svl.attention.bankFree } }
  bankFree : t.svl.attention.bankFree = true ↔ s.svl.attention.bankFree = true ∨ ∃ k, frees s r k
  trc : t.trc = { s.trc with complete := t.trc.complete }
  complete : t.trc.complete = true ↔
    s.trc.complete = true ∨ (s.ptk.opState = .tripped ∧ ∀ q, q ≠ p → s.record q = none)
  ptk : t.ptk = { s.ptk with records := t.ptk.records }
  bins : t.bins = s.bins
  gates : t.gates = s.gates
  ports : t.portA = s.portA ∧ t.portB = s.portB
  drm : t.drm = s.drm
  ttp : t.ttp = s.ttp

theorem bank_exitReport (s : State) (r : Part) (l : Line) (k : BankId) :
    (exitReport s r l).bank k =
      if r.tag = some k then { s.bank k with counts := (s.bank k).counts.exited (s.bank k) r l } else s.bank k := by
  unfold exitReport
  rcases r.tag with _ | (_ | _) <;> cases k <;> rfl

theorem exitReport_emptied {s : State} {p : PocketNo} {r : Part} (h : s.record p = some r) (l : Line) :
    Exited s p r l (emptyPocket (exitReport s r l) p) := by
  have ptk : (exitReport s r l).ptk = s.ptk := by rw [exitReport_frame]
  have svl : (exitReport s r l).svl = s.svl := by rw [exitReport_frame]
  have trc : (exitReport s r l).trc = s.trc := by rw [exitReport_frame]
  have there : (exitReport s r l).record p = some r := by rw [State.record, ptk]; exact h
  have same (q : PocketNo) : (exitReport s r l).record q = s.record q := by rw [State.record, ptk]; rfl
  have frees_iff (k : BankId) : frees (exitReport s r l) r k ↔ frees s r k := by
    unfold frees
    rw [bank_exitReport]
    split <;> rfl
  refine ⟨fun q => ?_, fun k => ?_, ?_, ?_, ?_, ?_, ?_, ?_, ?_, ⟨?_, ?_⟩, ?_, ?_⟩
  case refine_1 =>
    split
    next here => rw [here]; exact emptyPocket_record_self _ p
    next ne => rw [emptyPocket_record_ne _ ne, same]
  case refine_2 =>
    rw [emptyPocket_bank there, bank_departure, bank_exitReport]
    split <;> rfl
  case refine_3 =>
    rw [emptyPocket_svl there, ← svl]
    exact departure_svl_frame _ _
  case refine_4 =>
    rw [emptyPocket_svl there, departure_bankFree_iff, svl]
    simp only [frees_iff]
  case refine_5 => rw [emptyPocket_frame, trc]
  case refine_6 =>
    rw [emptyPocket_complete_iff there, trc, ptk]
    simp only [same]
  all_goals rw [emptyPocket_frame, exitReport_frame]

/-! ## Pulses that start -/

theorem State.setPulse_setPulse (s : State) (l : Line) (p q : Option Pulse) : (s.setPulse l p).setPulse l q = s.setPulse l q := by
  simp [State.setPulse, Vector.set_set]

/-- GATE0's pulse starts with nothing but its timer written (R130). -/
theorem startPulse_zero (s : State) : startPulse s 0 = s.setPulse 0 (some ⟨s.ptk.ring.pulseWidth, 0⟩) := by
  unfold startPulse endPulse
  split
  · exact State.setPulse_setPulse s 0 _ _
  · rfl

/-- The pulse of a bin with parts reserved starts with nothing but its timer written (R128). -/
theorem startPulse_of_reserved {s : State} {b : SortBin} (reserved : (s.bin b).reserved ≠ 0) :
    startPulse s (lineOf b) = s.setPulse (lineOf b) (some ⟨s.ptk.ring.pulseWidth, 0⟩) := by
  unfold startPulse
  by_cases running : (s.pulse (lineOf b)).isSome = true
  · rw [endPulse_lineOf running, drainTest, if_neg fun drains => reserved drains.2.1]
    exact State.setPulse_setPulse s _ _ _
  · rw [endPulse, if_neg running]

/-- A fire at a bin with parts reserved, up to its exit report (R114, R128). -/
theorem fireReport_startPulse {s : State} {b : SortBin} (reserved : (s.bin b).reserved ≠ 0) :
    fireReport (startPulse s (lineOf b)) b =
      (s.setPulse (lineOf b) (some ⟨s.ptk.ring.pulseWidth, 0⟩)).setBin b
        { s.bin b with filled := (s.bin b).filled + 1, reserved := (s.bin b).reserved - 1 } := by
  have runs : pulseRunning (s.setPulse (lineOf b) (some ⟨s.ptk.ring.pulseWidth, 0⟩)) b = true := by
    rw [pulseRunning, State.pulse_setPulse_same]; rfl
  rw [startPulse_of_reserved reserved, fireReport, drainTest_setBin,
    if_neg fun drains => Bool.eq_false_iff.mp drains.2.2 runs]
  rfl

/-! ## GATE 1 to 15 -/

theorem fireGate_of_other {s : State} {b : SortBin}
    (other : ∀ r, s.record (pocketAt s s.ptk.ring.gates[b]) = some r → r.state ≠ .graded (.bin b)) : fireGate s b = s := by
  rcases h : s.record (pocketAt s s.ptk.ring.gates[b]) with _ | r
  · simp only [fireGate, h]
  · simp only [fireGate, h, if_neg (other r h)]

/-- Whether a grading counts as good: a class by its action, a window entry always (R105). -/
def Grade.good (k : Bank) : Grade → Bool
  | .byEntry _ => true
  | .byClass c => (k.actions[c.code]).good
  | .ungraded => false

theorem Part.exitsGood_iff (r : Part) (k : Bank) :
    r.exitsGood k = true ↔ r.kind = .product ∧ r.isGraded = true ∧ r.grade.good k = true := by
  rcases r with ⟨state, serial, tag, kind, retests, contact, measure, verify, deviation, grade⟩
  cases kind <;> cases state <;> cases grade <;> simp [Part.exitsGood, Part.isGraded, Grade.good]
  rfl

theorem count_ite (c : Prop) [Decidable c] (n : Count32) : (if c then n + 1 else n) = n + (if c then 1 else 0) := by
  split
  · rfl
  · exact (BitVec.add_zero n).symm

/-- The lot counters after an exit, field by field (R105). -/
theorem exited_eq (k : Bank) (r : Part) (l : Line) :
    k.counts.exited k r l =
      { k.counts with
        exits := k.counts.exits.set l (k.counts.exits[l] + 1) l.isLt
        verdictsExpired :=
          if r.kind = .product ∧ r.state = .held then k.counts.verdictsExpired + 1 else k.counts.verdictsExpired
        good := k.counts.good +
          (if r.kind = .product ∧ r.isGraded = true ∧ r.grade.good k = true then 1 else 0)
        referenceExits := k.counts.referenceExits + (if r.kind = .reference then 1 else 0) } := by
  have good : (if r.exitsGood k then k.counts.good + 1 else k.counts.good) = _ :=
    (if_congr (r.exitsGood_iff k) rfl rfl).trans (count_ite _ _)
  rw [LotCounts.exited, good, count_ite]

/-- Settles O38. -/
theorem gateFiresForItsGradedPocket : Obligations.GateFiresForItsGradedPocket := by
  unfold Obligations.GateFiresForItsGradedPocket
  rintro s b p rfl
  refine ⟨fireGate_of_other, fun r k h graded tagged some_reserved => ?_⟩
  have reserved : (s.bin b).reserved ≠ 0 := Nat.pos_iff_ne_zero.mp some_reserved
  have fires : fireGate s b = firePocket s (pocketAt s s.ptk.ring.gates[b]) r b := by
    simp only [fireGate, h, if_pos graded]
  unfold firePocket at fires
  rw [fireReport_startPulse reserved] at fires
  refine ⟨_, fires, ?_⟩
  obtain ⟨record, bank, svl, bankFree, trc, complete, ptk, bins, gates, ⟨portA, portB⟩, drm, ttp⟩ :=
    exitReport_emptied (s := (s.setPulse (lineOf b) (some ⟨s.ptk.ring.pulseWidth, 0⟩)).setBin b
      { s.bin b with filled := (s.bin b).filled + 1, reserved := (s.bin b).reserved - 1 }) h (lineOf b)
  have freed : (∃ j, frees s r j) ↔ (s.bank k).state = .draining ∧ (s.bank k).onRing - 1 = 0 := by
    refine ⟨fun ⟨j, same, freed⟩ => ?_, fun freed => ⟨k, tagged, freed⟩⟩
    obtain rfl := Option.some.inj (tagged.symm.trans same)
    exact freed
  have own := (bank k).trans (if_pos tagged)
  have other : r.tag ≠ some (otherBank k) := by rw [tagged]; cases k <;> exact nofun
  refine ⟨(record _).trans (if_pos rfl), fun q ne => (record q).trans (if_neg ne), ?_, fun l ne => ?_, ?_, fun c ne => ?_, ?_,
    ⟨?_, svl, bankFree.trans (or_congr .rfl freed)⟩, (bank _).trans (if_neg other), ttp, portA, portB, drm, trc, complete, ptk⟩
  · rw [State.pulse, gates]; exact State.pulse_setPulse_same s (lineOf b) _
  · rw [State.pulse, gates]; exact State.pulse_setPulse_ne s (Ne.symm ne) _
  · rw [State.bin, bins]; exact State.bin_setBin_same _ b _
  · rw [State.bin, bins]; exact State.bin_setBin_ne _ (Ne.symm ne) _
  · rw [own]
    refine (exited_eq _ r (lineOf b)).trans ?_
    have notHeld : ¬(r.kind = .product ∧ r.state = .held) := by rw [graded]; exact nofun
    have isGraded : r.isGraded = true := by rw [Part.isGraded, graded]
    simp only [if_neg notHeld, isGraded, true_and]

    rfl
  · rw [own]; rfl

/-! ## GATE0 (R130 to R132) -/

/-- Whether a release for a part completes its bin's drain (R115, R119). -/
def drainsFor (s : State) (r : Part) (b : SortBin) : Prop :=
  r.state = .graded (.bin b) ∧ (s.bin b).state = .draining ∧ (s.bin b).reserved - 1 = 0 ∧ pulseRunning s b = false

/-- The state and the record that GATE0 fires on: what is done before the pocket at W is swept (R130, R131, R132). -/
structure SweepReady (s : State) (p : PocketNo) (r : Part) (u : State) (w : Part) : Prop where
  record : u.record p = some w
  others : ∀ q, q ≠ p → u.record q = s.record q
  tag : w.tag = r.tag
  kind : w.kind = r.kind
  held : w.state = .held ↔ r.state = .held
  good : ∀ k : Bank, (w.isGraded = true ∧ w.grade.good k = true) ↔ (r.state = .graded .sweep ∧ r.grade.good k = true)
  bank : ∀ k, u.bank k = s.bank k
  gates : u.gates = s.gates
  ports : u.portA = s.portA ∧ u.portB = s.portB
  drm : u.drm = s.drm
  ttp : u.ttp = s.ttp
  trc : u.trc = s.trc
  ptk : u.ptk = { s.ptk with records := u.ptk.records }
  bins : ∀ b, u.bin b =
    { s.bin b with
      reserved := if r.state = .graded (.bin b) then (s.bin b).reserved - 1 else (s.bin b).reserved
      state :=
        if r.state = .graded (.bin b) ∧ (s.bin b).state = .draining ∧ (s.bin b).reserved - 1 = 0 ∧
            pulseRunning s b = false then .exchange
        else (s.bin b).state }
  svl : u.svl = { s.svl with hold := u.svl.hold, attention := { s.svl.attention with swapReady := u.svl.attention.swapReady } }
  holdDropped : r.state = .held → u.svl.hold = s.svl.hold.filter fun e => e.pocket != p
  holdKept : r.state ≠ .held → u.svl.hold = s.svl.hold
  swapReady : u.svl.attention.swapReady = true ↔ s.svl.attention.swapReady = true ∨ ∃ b, drainsFor s r b

section
variable {s : State} {p : PocketNo} {r : Part} (h : s.record p = some r)
include h

theorem sweepReady_of_plain (plain : r.state = .graded .sweep ∨ r.state = .void) : SweepReady s p r s r := by
  have notBin (b : SortBin) : r.state ≠ .graded (.bin b) := by rcases plain with e | e <;> rw [e] <;> exact nofun
  have notHeld : r.state ≠ .held := by rcases plain with e | e <;> rw [e] <;> exact nofun
  refine ⟨h, fun _ _ => rfl, rfl, rfl, .rfl, fun k => and_congr_left fun _ => ?_, fun _ => rfl, rfl, ⟨rfl, rfl⟩, rfl, rfl, rfl, rfl,
    fun b => ?_, rfl, fun held => absurd held notHeld, fun _ => rfl, ⟨.inl, fun e => e.elim id fun ⟨b, graded, _⟩ => absurd graded (notBin b)⟩⟩
  · rcases plain with e | e <;> simp [Part.isGraded, e]
  · simp only [notBin b, false_and, if_false]

theorem sweepReady_of_held (held : r.state = .held) : SweepReady s p r (dropHold s p) r := by
  have notBin (b : SortBin) : r.state ≠ .graded (.bin b) := by rw [held]; exact nofun
  refine ⟨h, fun _ _ => rfl, rfl, rfl, .rfl, fun k => and_congr_left fun _ => ?_, fun _ => rfl, rfl, ⟨rfl, rfl⟩, rfl, rfl, rfl, rfl,
    fun b => ?_, rfl, fun _ => rfl, fun other => absurd held other,
    ⟨.inl, fun e => e.elim id fun ⟨b, graded, _⟩ => absurd graded (notBin b)⟩⟩
  · simp [Part.isGraded, held]
  · simp only [notBin b, false_and, if_false]
    rfl

omit h in
theorem sweepReady_of_binned {b : SortBin} (graded : r.state = .graded (.bin b)) :
    SweepReady s p r ((release s b).setRecord p (some r.voided)) r.voided := by
  have notHeld : r.state ≠ .held := by rw [graded]; exact nofun
  have same {c : SortBin} (binned : r.state = .graded (.bin c)) : c = b := by
    rw [graded] at binned; cases binned; rfl
  have drains_iff : (∃ c, drainsFor s r c) ↔
      (s.bin b).state = .draining ∧ (s.bin b).reserved - 1 = 0 ∧ pulseRunning s b = false := by
    refine ⟨fun ⟨c, binned, drains⟩ => ?_, fun drains => ⟨b, graded, drains⟩⟩
    obtain rfl := same binned
    exact drains
  have others (q : PocketNo) (ne : q ≠ p) : ((release s b).setRecord p (some r.voided)).record q = s.record q := by
    rw [State.record_setRecord_ne _ (Ne.symm ne), State.record, release_ptk]; rfl
  have released : release s b = _ := drainTest_setBin s b _
  have frame := release_frame s b
  refine ⟨State.record_setRecord_same _ p _, others, rfl, rfl, ⟨nofun, fun e => absurd e notHeld⟩,
    fun k => ⟨fun e => absurd e.1 nofun, fun e => absurd (graded.symm.trans e.1) nofun⟩,
    fun k => by rw [frame]; cases k <;> rfl, by rw [frame]; rfl, ⟨by rw [frame]; rfl, by rw [frame]; rfl⟩, by rw [frame]; rfl,
    by rw [frame]; rfl, by rw [frame]; rfl, by rw [frame]; rfl, fun c => ?_, ?_, fun e => absurd e notHeld,
    fun _ => by rw [frame]; rfl, ?_⟩
  · rw [State.bin_setRecord, released]
    by_cases here : c = b
    · subst here
      simp only [graded, true_and, if_true]
      split
      · exact State.bin_setBin_same s c _
      · exact State.bin_setBin_same s c _
    · have other : r.state ≠ .graded (.bin c) := fun e => here (same e)
      simp only [other, false_and, if_false]
      split
      · exact State.bin_setBin_ne s (Ne.symm here) _
      · exact State.bin_setBin_ne s (Ne.symm here) _
  · rw [State.setRecord_svl, released]
    split <;> rfl
  · rw [State.setRecord_svl, released, drains_iff]
    split
    next drains => exact ⟨fun _ => .inr drains, fun _ => rfl⟩
    next stays => exact ⟨.inl, fun e => e.elim id fun drains => absurd drains stays⟩

end

/-- What GATE0's fire makes of the state that is ready for it. -/
theorem sweepOut_exited {u : State} {p : PocketNo} {w : Part} (h : u.record p = some w) :
    Exited (u.setPulse 0 (some ⟨u.ptk.ring.pulseWidth, 0⟩)) p w 0 (sweepOut u p) := by
  rw [sweepOut_of_some h, startPulse_zero]
  exact exitReport_emptied (s := u.setPulse 0 _) h 0

section
variable {s : State}

theorem sweepAtW_of_none (h : s.record (pocketAt s s.ptk.ring.sweep) = none) : sweepAtW s = s := by
  simp only [sweepAtW, h]

variable {r : Part} (h : s.record (pocketAt s s.ptk.ring.sweep) = some r)
include h

theorem sweepAtW_of_passing (passes : r.state = .measuring ∨ r.state = .retest ∨ r.state = .recirc) : sweepAtW s = s := by
  rcases passes with e | e | e <;> simp only [sweepAtW, h, e]

/-- Every other record at W is swept, from the state that is ready for it. -/
theorem sweepAtW_of_swept (notMeasuring : r.state ≠ .measuring) (notRetest : r.state ≠ .retest) (notRecirc : r.state ≠ .recirc) :
    ∃ u w, SweepReady s (pocketAt s s.ptk.ring.sweep) r u w ∧ sweepAtW s = sweepOut u (pocketAt s s.ptk.ring.sweep) := by
  rcases state : r.state with _ | (_ | b) | _ | _ | _ | _
  case graded.sweep => exact ⟨_, _, sweepReady_of_plain h (.inl state), by simp only [sweepAtW, h, state]⟩
  case void => exact ⟨_, _, sweepReady_of_plain h (.inr state), by simp only [sweepAtW, h, state]⟩
  case held => exact ⟨_, _, sweepReady_of_held h state, by simp only [sweepAtW, h, state]⟩
  case graded.bin =>
    obtain ⟨voided, -⟩ := void_and_recirc_of_track_kept h (by rw [state]; exact nofun) (by rw [state]; rfl) (release_ptk s b)
    exact ⟨_, _, sweepReady_of_binned state, by simp only [sweepAtW, h, state]; rw [voided]⟩
  case measuring => exact absurd state notMeasuring
  case retest => exact absurd state notRetest
  case recirc => exact absurd state notRecirc

end

/-- Settles O39. -/
theorem sweepTakesWhatNoGateTook : Obligations.SweepTakesWhatNoGateTook := by
  unfold Obligations.SweepTakesWhatNoGateTook
  rintro s p rfl
  refine ⟨sweepAtW_of_none, fun r h => ⟨sweepAtW_of_passing h, fun notMeasuring notRetest notRecirc => ?_⟩⟩
  intro freed drained
  obtain ⟨u, w, ready, out⟩ := sweepAtW_of_swept h notMeasuring notRetest notRecirc
  obtain ⟨record, bank, svl, bankFree, trc, complete, ptk, bins, gates, ⟨portA, portB⟩, drm, ttp⟩ := sweepOut_exited ready.record
  have bankOf (k : BankId) : (u.setPulse 0 (some ⟨u.ptk.ring.pulseWidth, 0⟩)).bank k = s.bank k := ready.bank k
  have ring : u.ptk.ring = s.ptk.ring := by rw [ready.ptk]
  have opState : u.ptk.opState = s.ptk.opState := by rw [ready.ptk]
  have banks (k : BankId) (other : r.tag ≠ some k) : (sweepOut u (pocketAt s s.ptk.ring.sweep)).bank k = s.bank k :=
    (bank k).trans ((if_neg (by rwa [ready.tag])).trans (ready.bank k))
  refine ⟨_, out, (record _).trans (if_pos rfl), fun q ne => (record q).trans ((if_neg ne).trans (ready.others q ne)), ?_,
    fun l ne => ?_, fun untagged => ?_, fun k tagged => ⟨banks _ ?_, ?_⟩, fun b => ?_, ?_, fun held => ?_, fun other => ?_, ?_, ?_,
    ?_, ?_, ?_, ?_, ?_, ?_, ?_, ?_⟩
  case refine_1 => rw [State.pulse, gates, ← ring]; exact State.pulse_setPulse_same u 0 _
  case refine_2 => rw [State.pulse, gates, State.pulse, ← ready.gates]; exact State.pulse_setPulse_ne u (Ne.symm ne) _
  case refine_3 => exact ⟨banks .a (by rw [untagged]; exact nofun), banks .b (by rw [untagged]; exact nofun)⟩
  case refine_4 => rw [tagged]; cases k <;> exact nofun
  case refine_5 =>
    have good := and_congr_right fun (_ : r.kind = .product) => ready.good (s.bank k)
    rw [bank, if_pos (ready.tag.trans tagged), bankOf, exited_eq]
    simp only [ready.kind, ready.held, good]
    rfl
  case refine_6 => rw [State.bin, bins]; exact ready.bins b
  case refine_7 => rw [svl]; exact ready.svl ▸ rfl
  case refine_8 => rw [svl]; exact ready.holdDropped held
  case refine_9 => rw [svl]; exact ready.holdKept other
  case refine_10 =>
    have attention : u.svl.attention = { s.svl.attention with swapReady := u.svl.attention.swapReady } :=
      congrArg Svl.attention ready.svl
    rw [svl]
    exact congrArg
      (fun a : Attention => { a with bankFree := (sweepOut u (pocketAt s s.ptk.ring.sweep)).svl.attention.bankFree }) attention
  case refine_11 => rw [svl]; exact ready.swapReady
  case refine_12 =>
    have frees_iff (k : BankId) : frees (u.setPulse 0 (some ⟨u.ptk.ring.pulseWidth, 0⟩)) w k ↔ freed k := by
      rw [frees, bankOf, ready.tag]
    rw [bankFree, State.setPulse_svl, ready.svl]
    simp only [frees_iff]
  case refine_13 =>
    exact trc.trans (congrArg
      (fun t : Trc => { t with complete := (sweepOut u (pocketAt s s.ptk.ring.sweep)).trc.complete }) ready.trc)
  case refine_14 =>
    have trcOf : (u.setPulse 0 (some ⟨u.ptk.ring.pulseWidth, 0⟩)).trc = s.trc := ready.trc
    have opStateOf : (u.setPulse 0 (some ⟨u.ptk.ring.pulseWidth, 0⟩)).ptk.opState = s.ptk.opState := opState
    rw [complete, trcOf, opStateOf]
    refine or_congr .rfl (and_congr .rfl (forall_congr' fun q => imp_congr_right fun ne => ?_))
    rw [← ready.others q ne]
    rfl
  case refine_15 => exact portA.trans ready.ports.1
  case refine_16 => exact portB.trans ready.ports.2
  case refine_17 => exact drm.trans ready.drm
  case refine_18 => exact ttp.trans ready.ttp
  case refine_19 =>
    exact ptk.trans (congrArg
      (fun t : Ptk => { t with records := (sweepOut u (pocketAt s s.ptk.ring.sweep)).ptk.records }) ready.ptk)

end Sys2Proof.Machine
end

section
/-! PROOF. The gate driver's share of an index arrival (R128 to R134): every pulse ends, each gate fires for the pocket at its
offset, and the pocket at W is swept. -/

namespace Sys2Proof.Machine

/-! ## The end of every pulse (R134, R135) -/

/-- Whether the end of its running pulse completes a bin's drain (R119). -/
def drainWaits (s : State) (b : SortBin) : Prop :=
  (s.bin b).state = .draining ∧ (s.bin b).reserved = 0 ∧ s.pulse (lineOf b) ≠ none

/-- What the ends of the pulses on some lines leave. -/
structure PulsesEnded (s : State) (ls : List Line) (t : State) : Prop where
  frame : t = { s with gates := t.gates, bins := t.bins, svl := { s.svl with attention := t.svl.attention } }
  attention : t.svl.attention = { s.svl.attention with swapReady := t.svl.attention.swapReady }
  pulse : ∀ l, t.pulse l = if l ∈ ls then none else s.pulse l
  drained : ∀ b, lineOf b ∈ ls → drainWaits s b → t.bin b = { s.bin b with state := .exchange }
  kept : ∀ b, ¬(lineOf b ∈ ls ∧ drainWaits s b) → t.bin b = s.bin b
  swapReady : t.svl.attention.swapReady = true ↔ s.svl.attention.swapReady = true ∨ ∃ b, lineOf b ∈ ls ∧ drainWaits s b

theorem pulsesEnded_of_idle {s : State} {l : Line} (idle : s.pulse l = none) : PulsesEnded s [l] s := by
  have none_waits (b : SortBin) : ¬(lineOf b ∈ [l] ∧ drainWaits s b) := by
    rintro ⟨line, _, _, runs⟩
    rw [List.mem_singleton.mp line] at runs
    exact runs idle
  refine ⟨rfl, rfl, fun m => ?_, fun b line waits => absurd ⟨line, waits⟩ (none_waits b), fun _ _ => rfl,
    ⟨.inl, fun h => h.elim id fun ⟨b, waits⟩ => absurd waits (none_waits b)⟩⟩
  split
  next here => rw [List.mem_singleton.mp here, idle]
  next => rfl

theorem pulse_setPulse_none (s : State) (l m : Line) :
    (s.setPulse l none).pulse m = if m ∈ [l] then none else s.pulse m := by
  split
  next here => rw [List.mem_singleton.mp here]; exact State.pulse_setPulse_same s l none
  next ne => exact State.pulse_setPulse_ne s (fun e => ne (List.mem_singleton.mpr e.symm)) none

theorem endPulse_ended (s : State) (l : Line) : PulsesEnded s [l] (endPulse s l) := by
  by_cases running : (s.pulse l).isSome = true
  case neg =>
    rw [endPulse, if_neg running]
    exact pulsesEnded_of_idle (Option.not_isSome_iff_eq_none.mp running)
  have runs : s.pulse l ≠ none := Option.isSome_iff_ne_none.mp running
  rcases bin : binOfLine l with _ | b
  · have noBin (b : SortBin) : ¬(lineOf b ∈ [l] ∧ drainWaits s b) := fun ⟨line, _⟩ => by
      rw [← List.mem_singleton.mp line, binOfLine_lineOf] at bin
      cases bin
    rw [endPulse, if_pos running, bin]
    exact ⟨rfl, rfl, pulse_setPulse_none s l, fun b line waits => absurd ⟨line, waits⟩ (noBin b), fun _ _ => rfl,
      ⟨.inl, fun h => h.elim id fun ⟨b, waits⟩ => absurd waits (noBin b)⟩⟩
  · obtain rfl := eq_lineOf_of_binOfLine bin
    have idle : pulseRunning (s.setPulse (lineOf b) none) b = false := by
      rw [pulseRunning, State.pulse_setPulse_same]; rfl
    have only {c : SortBin} (line : lineOf c ∈ [lineOf b]) : c = b := lineOf_injective (List.mem_singleton.mp line)
    rw [endPulse_lineOf running, drainTest]
    by_cases waits : (s.bin b).state = .draining ∧ (s.bin b).reserved = 0
    · rw [if_pos ⟨waits.1, waits.2, idle⟩]
      refine ⟨rfl, rfl, pulse_setPulse_none s _, fun c line _ => ?_, fun c other => ?_,
        ⟨fun _ => .inr ⟨b, List.mem_singleton.mpr rfl, waits.1, waits.2, runs⟩, fun _ => rfl⟩⟩
      · obtain rfl := only line
        exact State.bin_setBin_same (s.setPulse (lineOf c) none) c _
      · have ne : b ≠ c := by
          rintro rfl
          exact other ⟨List.mem_singleton.mpr rfl, waits.1, waits.2, runs⟩
        exact State.bin_setBin_ne (s.setPulse (lineOf b) none) ne _
    · have none_waits (c : SortBin) : ¬(lineOf c ∈ [lineOf b] ∧ drainWaits s c) := by
        rintro ⟨line, draining, unreserved, _⟩
        rw [only line] at draining unreserved
        exact waits ⟨draining, unreserved⟩
      rw [if_neg fun drains => waits ⟨drains.1, drains.2.1⟩]
      exact ⟨rfl, rfl, pulse_setPulse_none s _, fun c line drains => absurd ⟨line, drains⟩ (none_waits c), fun _ _ => rfl,
        ⟨.inl, fun h => h.elim id fun ⟨c, drains⟩ => absurd drains (none_waits c)⟩⟩

/-- The end of one more line's pulse leaves what the end of both leaves. -/
theorem PulsesEnded.cons {s t u : State} {l : Line} {ls : List Line} (fresh : l ∉ ls) (first : PulsesEnded s [l] t)
    (rest : PulsesEnded t ls u) : PulsesEnded s (l :: ls) u := by
  have still {b : SortBin} (ne : lineOf b ≠ l) : drainWaits t b ↔ drainWaits s b := by
    have bin := first.kept b fun ⟨line, _⟩ => ne (List.mem_singleton.mp line)
    rw [drainWaits, drainWaits, bin, first.pulse, if_neg (mt List.mem_singleton.mp ne)]
  have later {b : SortBin} (line : lineOf b ∈ ls) : lineOf b ≠ l := fun e => fresh (e ▸ line)
  refine ⟨?_, ?_, fun m => ?_, fun b line waits => ?_, fun b stays => ?_, ?_⟩
  · rw [rest.frame, first.frame]
  · rw [rest.attention, first.attention]
  · rw [rest.pulse, first.pulse]
    simp only [List.mem_cons, List.not_mem_nil, or_false]
    by_cases mem : m ∈ ls <;> simp [mem]
  · rcases List.mem_cons.mp line with here | line
    · rw [rest.kept b fun ⟨line, _⟩ => later line here]
      exact first.drained b (List.mem_singleton.mpr here) waits
    · rw [rest.drained b line ((still (later line)).mpr waits),
        first.kept b fun ⟨here, _⟩ => later line (List.mem_singleton.mp here)]
  · rw [rest.kept b fun ⟨line, waits⟩ => stays ⟨.tail _ line, (still (later line)).mp waits⟩]
    exact first.kept b fun ⟨here, waits⟩ => stays ⟨List.mem_cons.mpr (.inl (List.mem_singleton.mp here)), waits⟩
  · rw [rest.swapReady, first.swapReady, or_assoc]
    refine or_congr .rfl ⟨?_, ?_⟩
    · rintro (⟨b, here, waits⟩ | ⟨b, line, waits⟩)
      · exact ⟨b, List.mem_cons.mpr (.inl (List.mem_singleton.mp here)), waits⟩
      · exact ⟨b, .tail _ line, (still (later line)).mp waits⟩
    · rintro ⟨b, line, waits⟩
      rcases List.mem_cons.mp line with here | line
      · exact .inl ⟨b, List.mem_singleton.mpr here, waits⟩
      · exact .inr ⟨b, line, (still (later line)).mpr waits⟩

theorem foldl_endPulse_ended (ls : List Line) (once : ls.Nodup) (s : State) : PulsesEnded s ls (ls.foldl endPulse s) := by
  induction ls generalizing s with
  | nil => exact ⟨rfl, rfl, fun _ => rfl, nofun, fun _ _ => rfl, by simp⟩
  | cons l ls ih =>
    obtain ⟨fresh, once⟩ := List.nodup_cons.mp once
    exact (endPulse_ended s l).cons fresh (ih once _)

theorem endAllPulses_ended (s : State) : PulsesEnded s (List.finRange 16) (endAllPulses s) :=
  foldl_endPulse_ended _ (List.nodup_finRange 16) s

/-! ## The fires (R128, R129) -/

/-- Whether the pocket at a gate's offset is GRADED with the gate's bin. -/
def gateFires (s : State) (b : SortBin) : Prop :=
  (s.record (pocketAt s s.ptk.ring.gates[b])).any (fun r => r.state == .graded (.bin b)) = true

/-- What the fires of some gates leave of the records, the pulses and the ring. -/
structure GatesFired (s : State) (bs : List SortBin) (t : State) : Prop where
  track : t.ptk = { s.ptk with records := t.ptk.records }
  emptied : ∀ q, (∃ b ∈ bs, q = pocketAt s s.ptk.ring.gates[b] ∧ gateFires s b) → t.record q = none
  kept : ∀ q, ¬(∃ b ∈ bs, q = pocketAt s s.ptk.ring.gates[b] ∧ gateFires s b) → t.record q = s.record q
  fresh : ∀ b ∈ bs, gateFires s b → t.pulse (lineOf b) = some ⟨s.ptk.ring.pulseWidth, 0⟩
  still : ∀ l, ¬(∃ b ∈ bs, l = lineOf b ∧ gateFires s b) → t.pulse l = s.pulse l

theorem gateFires_iff (s : State) (b : SortBin) :
    gateFires s b ↔ ∃ r, s.record (pocketAt s s.ptk.ring.gates[b]) = some r ∧ r.state = .graded (.bin b) := by
  simp only [gateFires, Option.any_eq_true, beq_iff_eq]

theorem fireGate_fired (s : State) (b : SortBin) : GatesFired s [b] (fireGate s b) := by
  by_cases fires : gateFires s b
  · obtain ⟨r, h, graded⟩ := (gateFires_iff s b).mp fires
    have out : fireGate s b = firePocket s (pocketAt s s.ptk.ring.gates[b]) r b := by
      simp only [fireGate, h, if_pos graded]
    have pulse (l : Line) : (fireGate s b).pulse l = if l = lineOf b then some ⟨s.ptk.ring.pulseWidth, 0⟩ else s.pulse l := by
      rw [out, State.pulse, firePocket_gates]; exact pulse_startPulse s (lineOf b) l
    have here : b ∈ [b] := .head _
    refine ⟨by rw [out, firePocket_frame], fun q ⟨c, mem, at_gate, _⟩ => ?_, fun q other => ?_, fun c mem _ => ?_, fun l other => ?_⟩
    · obtain rfl := List.mem_singleton.mp mem
      rw [out, firePocket_record, if_pos at_gate]
    · rw [out, firePocket_record, if_neg fun at_gate => other ⟨b, here, at_gate, fires⟩]
    · obtain rfl := List.mem_singleton.mp mem
      rw [pulse, if_pos rfl]
    · rw [pulse, if_neg fun line => other ⟨b, here, line, fires⟩]
  · have none_fires {c : SortBin} (mem : c ∈ [b]) : ¬gateFires s c := List.mem_singleton.mp mem ▸ fires
    rw [fireGate_of_other fun r h graded => fires ((gateFires_iff s b).mpr ⟨r, h, graded⟩)]
    exact ⟨rfl, fun q ⟨c, mem, _, fires⟩ => absurd fires (none_fires mem), fun _ _ => rfl,
      fun c mem fires => absurd fires (none_fires mem), fun _ _ => rfl⟩

theorem GatesFired.place {s t : State} {bs : List SortBin} (fired : GatesFired s bs t) (k : Nat) :
    pocketAt t k = pocketAt s k := by
  rw [pocketAt, fired.track]; rfl

theorem GatesFired.ring {s t : State} {bs : List SortBin} (fired : GatesFired s bs t) : t.ptk.ring = s.ptk.ring := by
  rw [fired.track]

/-- Another gate's fire neither takes nor gives a gate its pocket: the record names one bin. -/
theorem GatesFired.gateFires_iff {s t : State} {b c : SortBin} (fired : GatesFired s [b] t) (ne : c ≠ b) :
    gateFires t c ↔ gateFires s c := by
  rw [gateFires, fired.place, fired.ring, gateFires]
  by_cases taken : ∃ x ∈ [b], pocketAt s s.ptk.ring.gates[c] = pocketAt s s.ptk.ring.gates[x] ∧ gateFires s x
  · obtain ⟨x, mem, same, fires⟩ := taken
    obtain rfl := List.mem_singleton.mp mem
    obtain ⟨r, h, graded⟩ := (Machine.gateFires_iff s x).mp fires
    have other : r.state ≠ .graded (.bin c) := by rw [graded]; intro e; cases e; exact ne rfl
    rw [fired.emptied _ ⟨x, mem, same, fires⟩, same, h]
    simp [other]
  · rw [fired.kept _ taken]

theorem GatesFired.cons {s t u : State} {b : SortBin} {bs : List SortBin} (once : b ∉ bs) (first : GatesFired s [b] t)
    (rest : GatesFired t bs u) : GatesFired s (b :: bs) u := by
  have later {c : SortBin} (mem : c ∈ bs) : c ≠ b := fun e => once (e ▸ mem)
  have still {c : SortBin} (mem : c ∈ bs) : gateFires t c ↔ gateFires s c := first.gateFires_iff (later mem)
  have place (c : SortBin) : pocketAt t t.ptk.ring.gates[c] = pocketAt s s.ptk.ring.gates[c] := by
    rw [first.place, first.ring]
  have here : b ∈ [b] := .head _
  refine ⟨by rw [rest.track, first.track], fun q taken => ?_, fun q other => ?_, fun c mem fires => ?_, fun l other => ?_⟩
  · by_cases more : ∃ c ∈ bs, q = pocketAt t t.ptk.ring.gates[c] ∧ gateFires t c
    · exact rest.emptied q more
    · rw [rest.kept q more]
      refine first.emptied q ?_
      obtain ⟨c, mem, at_gate, fires⟩ := taken
      rcases List.mem_cons.mp mem with rfl | mem
      · exact ⟨c, here, at_gate, fires⟩
      · exact absurd ⟨c, mem, at_gate.trans (place c).symm, (still mem).mpr fires⟩ more
  · rw [rest.kept q fun ⟨c, mem, at_gate, fires⟩ => other ⟨c, .tail _ mem, at_gate.trans (place c), (still mem).mp fires⟩]
    refine first.kept q fun ⟨c, mem, taken⟩ => other ⟨c, ?_, taken⟩
    exact List.mem_cons.mpr (.inl (List.mem_singleton.mp mem))
  · rcases List.mem_cons.mp mem with rfl | mem
    · rw [rest.still _ fun ⟨x, mem, line, _⟩ => later mem (lineOf_injective line.symm)]
      exact first.fresh c here fires
    · rw [rest.fresh c mem ((still mem).mpr fires), first.ring]
  · rw [rest.still l fun ⟨c, mem, line, fires⟩ => other ⟨c, .tail _ mem, line, (still mem).mp fires⟩]
    refine first.still l fun ⟨c, mem, taken⟩ => other ⟨c, ?_, taken⟩
    exact List.mem_cons.mpr (.inl (List.mem_singleton.mp mem))

theorem foldl_fireGate_fired (bs : List SortBin) (once : bs.Nodup) (s : State) : GatesFired s bs (bs.foldl fireGate s) := by
  induction bs generalizing s with
  | nil => exact ⟨rfl, nofun, fun _ _ => rfl, nofun, fun _ _ => rfl⟩
  | cons b bs ih =>
    obtain ⟨fresh, once⟩ := List.nodup_cons.mp once
    exact (fireGate_fired s b).cons fresh (ih once _)

theorem fireGates_fired (s : State) : GatesFired s (List.finRange 15) (fireGates s) :=
  foldl_fireGate_fired _ (List.nodup_finRange 15) s

/-! ## The sweep (R130 to R132) -/

/-- Whether the pocket at W is swept. -/
def sweeps (s : State) : Prop :=
  (s.record (pocketAt s s.ptk.ring.sweep)).any (fun r => r.isGraded || r.state == .void || r.state == .held) = true

/-- The sweep's pulse and record: GATE0 for a pocket at W that is GRADED, VOID or HELD, and nothing for any other. -/
theorem sweepAtW_of_sweeps {s : State} (h : sweeps s) :
    (∀ q, (sweepAtW s).record q = if q = pocketAt s s.ptk.ring.sweep then none else s.record q) ∧
      ∀ l, (sweepAtW s).pulse l = if l = 0 then some ⟨s.ptk.ring.pulseWidth, 0⟩ else s.pulse l := by
  obtain ⟨r, found, takes⟩ : ∃ r, s.record (pocketAt s s.ptk.ring.sweep) = some r ∧
      (r.isGraded || r.state == .void || r.state == .held) = true := by simpa only [sweeps, Option.any_eq_true] using h
  obtain ⟨u, w, ready, out⟩ := sweepAtW_of_swept found (by intro e; simp [Part.isGraded, e] at takes)
    (by intro e; simp [Part.isGraded, e] at takes) (by intro e; simp [Part.isGraded, e] at takes)
  have exited := sweepOut_exited ready.record
  rw [out]
  refine ⟨fun q => ?_, fun l => ?_⟩
  · rw [exited.record]
    split
    next => rfl
    next ne => exact ready.others q ne
  · rw [State.pulse, exited.gates]
    split
    next here => rw [here]; exact (State.pulse_setPulse_same u 0 _).trans (by rw [ready.ptk])
    next ne => exact (State.pulse_setPulse_ne u (Ne.symm ne) _).trans (by rw [State.pulse, ready.gates]; rfl)

theorem sweepAtW_of_not_sweeps {s : State} (h : ¬sweeps s) : sweepAtW s = s := by
  rcases found : s.record (pocketAt s s.ptk.ring.sweep) with _ | r
  · exact sweepAtW_of_none found
  · refine sweepAtW_of_passing found ?_
    rw [sweeps, found, Option.any_some] at h
    rcases state : r.state with _ | _ | _ | _ | _ | _
    case measuring => exact .inl rfl
    case retest => exact .inr (.inl rfl)
    case recirc => exact .inr (.inr rfl)
    all_goals simp [Part.isGraded, state] at h

/-! ## The whole share -/

/-- Two offsets on the ring are two pockets (R3). -/
theorem RingOk.pocketAt_ne {s : State} (h : RingOk s) {k j : Nat} (order : k < j) (below : j < s.ptk.ring.pockets) :
    pocketAt s k ≠ pocketAt s j := by
  obtain ⟨valid, pointer, -⟩ := h
  obtain ⟨⟨_, thirtyTwo⟩, -⟩ := (Ring.valid_iff_meets _).mp valid
  intro same
  have values : (s.ptk.loadPointer + s.ptk.ring.pockets - k) % s.ptk.ring.pockets % 32 =
      (s.ptk.loadPointer + s.ptk.ring.pockets - j) % s.ptk.ring.pockets % 32 := congrArg Fin.val same
  have near := Nat.mod_lt (s.ptk.loadPointer + s.ptk.ring.pockets - k) (show 0 < s.ptk.ring.pockets by omega)
  have far := Nat.mod_lt (s.ptk.loadPointer + s.ptk.ring.pockets - j) (show 0 < s.ptk.ring.pockets by omega)
  rw [Nat.mod_eq_of_lt (Nat.lt_of_lt_of_le near thirtyTwo), Nat.mod_eq_of_lt (Nat.lt_of_lt_of_le far thirtyTwo),
    mod_of_lt_double (x := s.ptk.loadPointer + s.ptk.ring.pockets - k) (by omega),
    mod_of_lt_double (x := s.ptk.loadPointer + s.ptk.ring.pockets - j) (by omega)] at values
  split at values <;> split at values <;> omega

/-- What the share leaves of the pulses and the records. -/
structure GatesTaken (s t : State) : Prop where
  fired : ∀ b, gateFires s b → t.pulse (lineOf b) = some ⟨s.ptk.ring.pulseWidth, 0⟩
  idle : ∀ b, ¬gateFires s b → t.pulse (lineOf b) = none
  swept : sweeps s → t.pulse 0 = some ⟨s.ptk.ring.pulseWidth, 0⟩
  unswept : ¬sweeps s → t.pulse 0 = none
  emptied : ∀ q, (∃ b, q = pocketAt s s.ptk.ring.gates[b] ∧ gateFires s b) ∨ (q = pocketAt s s.ptk.ring.sweep ∧ sweeps s) →
    t.record q = none
  kept : ∀ q, ¬((∃ b, q = pocketAt s s.ptk.ring.gates[b] ∧ gateFires s b) ∨ (q = pocketAt s s.ptk.ring.sweep ∧ sweeps s)) →
    t.record q = s.record q

/-- From a state in which no pulse runs, the fires and the sweep leave what the share is to leave: no gate stands at W. -/
theorem gatesTaken {s v : State} (ok : RingOk s) (idle : ∀ l, s.pulse l = none) (fired : GatesFired s (List.finRange 15) v) :
    GatesTaken s (sweepAtW v) := by
  obtain ⟨-, -, -, -, -, ⟨-, inside⟩, -, -, -, -, gate⟩ := (Ring.valid_iff_meets _).mp ok.1
  have apart (b : SortBin) : pocketAt s s.ptk.ring.gates[b] ≠ pocketAt s s.ptk.ring.sweep := ok.pocketAt_ne (gate b).2.2.2 inside
  have place : pocketAt v v.ptk.ring.sweep = pocketAt s s.ptk.ring.sweep := by rw [fired.place, fired.ring]
  have kept (q : PocketNo) (other : ¬∃ b, q = pocketAt s s.ptk.ring.gates[b] ∧ gateFires s b) : v.record q = s.record q :=
    fired.kept q fun ⟨b, _, taken⟩ => other ⟨b, taken⟩
  have atW : v.record (pocketAt s s.ptk.ring.sweep) = s.record (pocketAt s s.ptk.ring.sweep) :=
    kept _ fun ⟨b, same, _⟩ => apart b same.symm
  have swept : sweeps v ↔ sweeps s := by rw [sweeps, place, atW, sweeps]
  have noZero (b : SortBin) : lineOf b ≠ 0 := Fin.succ_ne_zero b
  have pulse (b : SortBin) : (sweepAtW v).pulse (lineOf b) = v.pulse (lineOf b) := by
    by_cases takes : sweeps v
    · rw [(sweepAtW_of_sweeps takes).2, if_neg (noZero b)]
    · rw [sweepAtW_of_not_sweeps takes]
  refine ⟨fun b fire => ?_, fun b other => ?_, fun takes => ?_, fun other => ?_, fun q taken => ?_, fun q other => ?_⟩
  · rw [pulse, fired.fresh b (List.mem_finRange b) fire]
  · rw [pulse, fired.still (lineOf b) fun ⟨c, _, line, fire⟩ => other (lineOf_injective line ▸ fire), idle]
  · rw [(sweepAtW_of_sweeps (swept.mpr takes)).2, if_pos rfl, fired.ring]
  · rw [sweepAtW_of_not_sweeps (mt swept.mp other), fired.still 0 fun ⟨c, _, line, _⟩ => noZero c line.symm, idle]
  · rcases taken with ⟨b, at_gate, fire⟩ | ⟨here, takes⟩
    · have gone : v.record q = none := fired.emptied q ⟨b, List.mem_finRange b, at_gate, fire⟩
      by_cases takes : sweeps v
      · rw [(sweepAtW_of_sweeps takes).1, gone, ite_self]
      · rw [sweepAtW_of_not_sweeps takes, gone]
    · rw [(sweepAtW_of_sweeps (swept.mpr takes)).1, place, if_pos here]
  · have stays : v.record q = s.record q := kept q fun taken => other (.inl taken)
    by_cases takes : sweeps v
    · rw [(sweepAtW_of_sweeps takes).1, place, if_neg fun here => other (.inr ⟨here, swept.mp takes⟩), stays]
    · rw [sweepAtW_of_not_sweeps takes, stays]

/-- What the share's outcome names is the same before the pulses end. -/
theorem GatesTaken.of_ptk {s u t : State} (taken : GatesTaken u t) (track : u.ptk = s.ptk) : GatesTaken s t := by
  have record (q : PocketNo) : u.record q = s.record q := by rw [State.record, track]; rfl
  have place (k : Nat) : pocketAt u k = pocketAt s k := by rw [pocketAt, track]; rfl
  have fires (b : SortBin) : gateFires u b ↔ gateFires s b := by rw [gateFires, place, record, track, gateFires]
  have sweeps_iff : sweeps u ↔ sweeps s := by rw [sweeps, place, record, track, sweeps]
  obtain ⟨fired, idle, swept, unswept, emptied, kept⟩ := taken
  simp only [fires, sweeps_iff, place, record, track] at fired idle swept unswept emptied kept
  exact ⟨fired, idle, swept, unswept, emptied, kept⟩

theorem gateShare_taken {s : State} (ok : RingOk s) : GatesTaken s (gateShare s) := by
  have ends := endAllPulses_ended s
  have track : (endAllPulses s).ptk = s.ptk := by rw [ends.frame]
  have okNow : RingOk (endAllPulses s) :=
    ok.of_kept (by rw [track]) (by rw [track]) fun p none => by rw [State.record, track]; exact none
  exact (gatesTaken okNow (fun l => (ends.pulse l).trans (if_pos (List.mem_finRange l))) (fireGates_fired _)).of_ptk track

/-- Settles O51. -/
theorem gatesPulseExactlyTheFired : Obligations.GatesPulseExactlyTheFired := by
  unfold Obligations.GatesPulseExactlyTheFired
  refine ⟨?ends, fun _ => rfl, fun slipped s ok => ?share⟩
  case ends =>
    rintro s _ rfl
    obtain ⟨frame, attention, pulse, drained, kept, swapReady⟩ := endAllPulses_ended s
    refine ⟨frame, attention, fun l => (pulse l).trans (if_pos (List.mem_finRange l)), fun b => ⟨drained b (List.mem_finRange _),
      fun stays => kept b fun h => stays h.2⟩, swapReady.trans (or_congr .rfl (exists_congr fun b => ?_))⟩
    exact and_iff_right (List.mem_finRange _)
  case share =>
    obtain ⟨fired, idle, swept, unswept, emptied, kept⟩ : GatesTaken s (takeShare slipped s .gates) := gateShare_taken ok
    refine ⟨fun b => ?_, ?_, fun q => ?_⟩
    · split
      next fire => exact fired b fire
      next other => exact idle b other
    · split
      next takes => exact swept takes
      next other => exact unswept other
    · have taken_iff : ((∃ b : SortBin, q = pocketAt s s.ptk.ring.gates[b] ∧
            (s.record q).any (fun r => r.state == .graded (.bin b)) = true) ∨
          (q = pocketAt s s.ptk.ring.sweep ∧
            (s.record q).any (fun r => r.isGraded || r.state == .void || r.state == .held) = true)) ↔
          ((∃ b, q = pocketAt s s.ptk.ring.gates[b] ∧ gateFires s b) ∨ (q = pocketAt s s.ptk.ring.sweep ∧ sweeps s)) :=
        or_congr (exists_congr fun b => and_congr_right fun here => by rw [gateFires, ← here])
          (and_congr_right fun here => by rw [sweeps, ← here])
      split
      next taken => exact emptied q (taken_iff.mp taken)
      next other => exact kept q (mt taken_iff.mpr other)

end Sys2Proof.Machine
end

section
/-! PROOF. The counters of a meter port balance against its list (R62): every change counts what it takes off the list and
what it puts on it, as long as no counter has saturated (R64). -/

namespace Sys2Proof.Machine

theorem satAdd_toNat (n : Count16) (k : Nat) : (satAdd n k).toNat = min 65535 (n.toNat + k) := by
  rw [satAdd, BitVec.toNat_ofNat]
  omega

theorem satAdd_zero (n : Count16) : satAdd n 0 = n := by
  apply BitVec.eq_of_toNat_eq
  rw [satAdd_toNat]
  have := n.isLt
  omega

/-! ## One port -/

/-- What the counters of R62 make of a change of the list: unless one of them has saturated, they kept count of it. -/
def MeterPort.Counted (m n : MeterPort) : Prop := n.Unsaturated → m.Unsaturated ∧ (m.Balances → n.Balances)

theorem MeterPort.Counted.refl (m : MeterPort) : m.Counted m := fun unsaturated => ⟨unsaturated, id⟩

theorem MeterPort.Counted.trans {l m n : MeterPort} (first : l.Counted m) (second : m.Counted n) : l.Counted n := by
  intro unsaturated
  obtain ⟨before, balanced⟩ := second unsaturated
  obtain ⟨earlier, balanced'⟩ := first before
  exact ⟨earlier, balanced ∘ balanced'⟩

/-- A change that adds to each counter what it sends, takes, loses and lets expire. -/
theorem MeterPort.Counted.of_added {m n : MeterPort} {sent taken lost expired : Nat}
    (sentCount : n.counts.sent = satAdd m.counts.sent sent) (takenCount : n.counts.taken = satAdd m.counts.taken taken)
    (lostCount : n.counts.lost = satAdd m.counts.lost lost)
    (expiredCount : n.counts.expired = satAdd m.counts.expired expired)
    (entries : m.entries.length + sent = n.entries.length + taken + lost + expired) : m.Counted n := by
  unfold MeterPort.Counted MeterPort.Unsaturated MeterPort.Balances
  rw [sentCount, takenCount, lostCount, expiredCount]
  simp only [satAdd_toNat]
  omega

section
variable {m n : MeterPort}

theorem MeterPort.Counted.of_kept (counts : n.counts = m.counts) (entries : n.entries.length = m.entries.length) :
    m.Counted n := by
  refine .of_added (sent := 0) (taken := 0) (lost := 0) (expired := 0) ?_ ?_ ?_ ?_ (by omega)
  all_goals rw [counts, satAdd_zero]

theorem MeterPort.Counted.of_alike (alike : m.Alike n) : m.Counted n := by
  refine .of_added (sent := 0) (taken := 0) (lost := 0) (expired := 0) ?_ ?_ ?_ ?_ (by rw [alike.entries])
  · rw [alike.sent, satAdd_zero]
  · rw [alike.taken, satAdd_zero]
  · rw [alike.lost, satAdd_zero]
  · rw [alike.expired, satAdd_zero]

theorem MeterPort.naming_length_add_without (m : MeterPort) (p : PocketNo) :
    (m.naming p).length + (m.without p).entries.length = m.entries.length := by
  have parts := m.entries.length_eq_length_filter_add fun e => e.pocket == p
  rw [parts]
  rfl

theorem MeterPort.Counted.lose (m : MeterPort) (p : PocketNo) : m.Counted (m.lose p) := by
  unfold MeterPort.lose
  split
  · exact .refl m
  · refine .of_added (sent := 0) (taken := 0) (lost := (m.naming p).length) (expired := 0) (satAdd_zero _).symm
      (satAdd_zero _).symm rfl (satAdd_zero _).symm ?_
    have parts := m.naming_length_add_without p
    dsimp only
    omega

theorem MeterPort.Counted.expired (m : MeterPort) (p : PocketNo) :
    m.Counted { m.without p with counts := { m.counts with expired := satAdd m.counts.expired (m.naming p).length } } := by
  refine .of_added (sent := 0) (taken := 0) (lost := 0) (expired := (m.naming p).length) (satAdd_zero _).symm
    (satAdd_zero _).symm (satAdd_zero _).symm rfl ?_
  have parts := m.naming_length_add_without p
  dsimp only
  omega

theorem MeterPort.Counted.faulted (m : MeterPort) : m.Counted m.faulted :=
  .of_added (sent := 0) (taken := 0) (expired := 0) (satAdd_zero _).symm (satAdd_zero _).symm rfl (satAdd_zero _).symm
    (by simp [MeterPort.faulted])

theorem MeterPort.Counted.triggered (m : MeterPort) (p : PocketNo) (x : Int) : m.Counted (m.triggered p x) :=
  .of_added (taken := 0) (lost := 0) (expired := 0) rfl (satAdd_zero _).symm (satAdd_zero _).symm (satAdd_zero _).symm
    (by simp [MeterPort.triggered])

end

/-! ## Both ports -/

/-- Both ports' counters keep count. -/
def State.Counted (s t : State) : Prop := ∀ id, (s.port id).Counted (t.port id)

section
variable {s t : State}

theorem State.Counted.refl (s : State) : s.Counted s := fun _ => .refl _

theorem State.Counted.trans {u : State} (first : s.Counted t) (second : t.Counted u) : s.Counted u :=
  fun id => (first id).trans (second id)

theorem State.Counted.of_ports (portA : t.portA = s.portA) (portB : t.portB = s.portB) : s.Counted t := by
  intro id
  rw [State.port_of_ports portA portB]
  exact .refl _

theorem State.port_modPort_ne (s : State) {id other : PortId} (ne : other ≠ id) (f : MeterPort → MeterPort) :
    (s.modPort id f).port other = s.port other := by
  cases id <;> cases other
  case a.b | b.a => rfl
  all_goals exact absurd rfl ne

theorem State.Counted.modPort {id : PortId} {f : MeterPort → MeterPort} (counted : (s.port id).Counted (f (s.port id))) :
    s.Counted (s.modPort id f) := by
  intro other
  by_cases same : other = id
  · subst same
    rw [State.port_modPort_same]
    exact counted
  · rw [State.port_modPort_ne s same]
    exact .refl _

theorem State.Counted.strike (move : Strike s t) : s.Counted t := by
  cases move with
  | binned p r w b => exact .of_ports (by rw [release_frame]; rfl) (by rw [release_frame]; rfl)
  | measured p r w =>
    intro id
    cases id with
    | a => exact MeterPort.Counted.lose s.portA p
    | b => exact MeterPort.Counted.lose s.portB p
  | _ => exact .of_ports rfl rfl

theorem State.Counted.tripTrigger (s : State) (cause : Cause) : s.Counted (tripTrigger s cause) :=
  tripTrigger_keeps (P := s.Counted) (fun _ _ move counted => counted.trans (.strike move))
    (fun _ _ counted => counted.trans (.of_ports rfl rfl)) (.of_ports rfl rfl)

theorem State.Counted.faultPort (s : State) (id : PortId) : s.Counted (faultPort s id) := by
  have written : s.Counted (writeLost s id (s.port id).entries) :=
    .of_ports (by rw [writeLost_frame]) (by rw [writeLost_frame])
  exact written.trans (State.Counted.modPort (.faulted _))

theorem State.Counted.matchFrame (s : State) (id : PortId) (f : ResultFrame) : s.Counted (matchFrame s id f) := by
  unfold Machine.matchFrame
  dsimp only
  split
  · exact .modPort (.of_alike ⟨rfl, rfl, rfl, rfl, rfl, rfl, rfl⟩)
  next e younger split =>
    generalize olders : ((s.port id).entries.takeWhile fun e => e.seq != f.seq) = older
    have written : s.Counted (writeLost s id older) := .of_ports (by rw [writeLost_frame]) (by rw [writeLost_frame])
    have same : (writeLost s id older).port id = s.port id :=
      State.port_of_ports (by rw [writeLost_frame]) (by rw [writeLost_frame]) id
    have parts : (s.port id).entries.length = older.length + (younger.length + 1) := by
      rw [← olders, ← List.length_cons, ← split, ← List.length_append, List.takeWhile_append_dropWhile]
    refine written.trans (.trans (State.Counted.modPort ?_) (.of_ports (by rw [modPart_frame]) (by rw [modPart_frame])))
    rw [same]
    refine .of_added (sent := 0) (taken := 1) (lost := older.length) (expired := 0) (satAdd_zero _).symm rfl rfl
      (satAdd_zero _).symm ?_
    simp only [MeterPort.setEntries_entries]
    omega

theorem State.Counted.owner {op : Byte} (notClear : op ≠ 0x13) (move : OwnerChange op s t) : s.Counted t := by
  cases move with
  | clearTrack => exact absurd rfl notClear
  | verdictBin _ p r b => exact .of_ports (by rw [grant_frame]; rfl) (by rw [grant_frame]; rfl)
  | trip => exact .tripTrigger s _
  | timeout _ id ms => exact .modPort (.of_kept rfl rfl)
  | restore _ id => exact .modPort (.of_kept rfl rfl)
  | write => exact .of_ports (by rw [State.modBank_frame]) (by rw [State.modBank_frame])
  | activateDraining => exact .of_ports (by rw [switchTo_frame]) (by rw [switchTo_frame])
  | activateStandby =>
    exact .of_ports (by rw [switchTo_frame, State.modCounts, State.modBank_frame])
      (by rw [switchTo_frame, State.modCounts, State.modBank_frame])
  | resizeBin => exact .of_ports (by rw [resizeBin_frame]) (by rw [resizeBin_frame])
  | swapBegin => exact .of_ports (by rw [beginSwap_frame]) (by rw [beginSwap_frame])
  | _ => exact .of_ports rfl rfl

theorem State.Counted.change {c : Instr} (notClear : asks 0x13 c = false) (move : Change c s t) : s.Counted t := by
  have strikes {u : State} (all : Strikes s u) : s.Counted u :=
    all.keeps (P := s.Counted) (fun _ _ strike counted => counted.trans (.strike strike)) (.refl s)
  cases move with
  | void p => exact strikes (voidPocket_strikes s p)
  | recirc p => exact strikes (recircPocket_strikes s p)
  | trip cause => exact .tripTrigger s cause
  | fault id => exact .faultPort s id
  | endPulse l => exact .of_ports (by rw [endPulse_frame]) (by rw [endPulse_frame])
  | drain b => exact .of_ports (by rw [drainTest_frame]) (by rw [drainTest_frame])
  | fire => exact .of_ports (by rw [firePocket_frame]) (by rw [firePocket_frame])
  | sweep => exact .of_ports (by rw [sweepOut_frame]) (by rw [sweepOut_frame])
  | sweepHeld => exact .of_ports (by rw [sweepOut_frame]; rfl) (by rw [sweepOut_frame]; rfl)
  | expire id p =>
    unfold expireEntry
    split
    · exact .refl s
    · exact .modPort (.expired _ p)
  | classed | retestRev => exact .of_ports (by rw [State.modCounts, State.modBank_frame]) (by rw [State.modCounts, State.modBank_frame])
  | gradeBin => exact .of_ports (by rw [grant_frame]; rfl) (by rw [grant_frame]; rfl)
  | sample v =>
    rcases Nat.lt_or_ge s.drm.config.alarmLimit v.natAbs with beyond | within
    · rw [sampleArrival_of_beyond beyond]
      exact .trans (.of_ports rfl rfl) (.tripTrigger _ _)
    · rw [sampleArrival_of_within within]; exact .of_ports rfl rfl
  | trigger id p r x => exact .modPort (.triggered _ p x)
  | listen id f alike => exact .modPort (.of_alike alike)
  | skip => exact .of_ports (by rw [modPart_frame]) (by rw [modPart_frame])
  | answerTaken id f => exact .matchFrame s id f
  | arrive => exact .of_ports (by rw [arrive_frame]) (by rw [arrive_frame])
  | create => exact .of_ports (by rw [createRecord_frame]) (by rw [createRecord_frame])
  | productLoad => exact .of_ports (by rw [productLoad_frame]) (by rw [productLoad_frame])
  | complete => exact .of_ports (by rw [completionTest_frame]) (by rw [completionTest_frame])
  | bankReturn => exact .of_ports (by rw [bankReturn_frame]) (by rw [bankReturn_frame])
  | owner _ op asked owned =>
    refine .owner ?_ owned
    rintro rfl
    rw [asked] at notClear
    cases notClear
  | _ => exact .of_ports rfl rfl

theorem State.Counted.release (pins : ReleasePins) (s : State) : s.Counted (releaseReset pins s) := by
  intro id
  cases id with
  | a => exact .of_kept rfl rfl
  | b => exact .of_kept rfl rfl

end

/-- Settles O24. -/
theorem meterCountersBalance : Obligations.MeterCountersBalance := by
  unfold Obligations.MeterCountersBalance
  refine ⟨satAdd_toNat, fun c id s t notClear out unsaturated => ?_⟩
  have kept (counted : s.Counted t) : (s.port id).Balances → (t.port id).Balances := (counted id unsaturated).2
  cases happens_of_exec out with
  | reset por record count => intro _; cases id <;> rfl
  | release pins => exact kept (.release pins s)
  | releaseTrip pins => exact kept (.trans (.release pins s) (.tripTrigger _ _))
  | pin => exact kept (.of_ports rfl rfl)
  | unheard => exact fun balanced => balanced
  | heard _ changes =>
    exact kept (changes.keeps (P := s.Counted) (fun _ _ move counted => counted.trans (.change notClear move)) (.refl s))

end Sys2Proof.Machine
end

section
/-! PROOF. The expiry of a meter timer (R57, R58): what a fault writes, and which expiries follow an event. -/

namespace Sys2Proof.Machine

/-! ## What a fault writes -/

@[simp] theorem Part.result_setResult (r : Part) (id : PortId) (x : StationResult) : (r.setResult id x).result id = some x := by
  cases id <;> rfl

@[simp] theorem Part.setResult_setResult (r : Part) (id : PortId) (x y : StationResult) :
    (r.setResult id x).setResult id y = r.setResult id y := by
  cases id <;> rfl

/-- LOST goes into the records of exactly the pockets that the entries name (R50, R58). -/
theorem writeLost_record (s : State) (id : PortId) (es : List Outstanding) (q : PocketNo) :
    (writeLost s id es).record q =
      if q ∈ es.map Outstanding.pocket then (s.record q).map fun r => r.setResult id .lost else s.record q := by
  induction es generalizing s with
  | nil => rfl
  | cons e es ih =>
    have first : writeLost s id (e :: es) = writeLost (s.modPart e.pocket fun r => r.setResult id .lost) id es := rfl
    rw [first, ih, State.record_modPart]
    by_cases here : q = e.pocket
    · simp [here, Function.comp_def]
    · simp [here]

theorem writeLost_port (s : State) (id other : PortId) (es : List Outstanding) :
    (writeLost s id es).port other = s.port other :=
  State.port_of_ports (by rw [writeLost_frame]) (by rw [writeLost_frame]) other

theorem faultPort_port (s : State) (id : PortId) : (faultPort s id).port id = (s.port id).faulted := by
  have raised : (faultPort s id).port id = ((writeLost s id (s.port id).entries).modPort id MeterPort.faulted).port id :=
    State.port_of_ports rfl rfl id
  rw [raised, State.port_modPort_same, writeLost_port]

theorem faultPort_port_other (s : State) {id other : PortId} (ne : other ≠ id) :
    (faultPort s id).port other = s.port other := by
  have raised : (faultPort s id).port other = ((writeLost s id (s.port id).entries).modPort id MeterPort.faulted).port other :=
    State.port_of_ports rfl rfl other
  rw [raised, State.port_modPort_ne _ ne, writeLost_port]

theorem faultPort_record (s : State) (id : PortId) (q : PocketNo) :
    (faultPort s id).record q =
      if q ∈ (s.port id).entries.map Outstanding.pocket then (s.record q).map fun r => r.setResult id .lost
      else s.record q := by
  rw [← writeLost_record]
  simp only [faultPort, State.record, State.raise_ptk, State.modPort_ptk]

theorem faultPort_frame (s : State) (id : PortId) :
    faultPort s id =
      { s with
        ptk := { s.ptk with records := (faultPort s id).ptk.records }
        portA := (faultPort s id).portA, portB := (faultPort s id).portB
        svl := { s.svl with attention := s.svl.attention.raise .meterFault } } := by
  unfold faultPort
  rw [writeLost_frame, State.modPort_frame]
  rfl

/-! ## Ports without entries -/

/-- A trip leaves a port without entries as it is (R158). -/
theorem tripTrigger_port_of_empty {s : State} {id : PortId} (empty : (s.port id).entries = []) (cause : Cause) :
    (tripTrigger s cause).port id = s.port id := by
  have entry : (tripEntry s cause).port id = s.port id := State.port_of_ports rfl rfl id
  have action : (tripTrigger s cause).port id = (tripAction (tripEntry s cause)).port id := State.port_of_ports rfl rfl id
  rw [action, tripAction_port, entry, MeterPort.loseAll_of_none]
  rw [empty]
  exact nofun

theorem meterFault_port_of_empty {s : State} {id other : PortId} (empty : ((faultPort s id).port other).entries = []) :
    (meterFault s id).port other = (faultPort s id).port other := by
  rw [meterFault_eq]
  split
  · exact tripTrigger_port_of_empty empty _
  · rfl

/-- A faulted port keeps nothing that its trip could take (R58). -/
theorem meterFault_port (s : State) (id : PortId) : (meterFault s id).port id = (s.port id).faulted := by
  rw [meterFault_port_of_empty (by rw [faultPort_port]; rfl), faultPort_port]

/-- The other port's fault leaves a port without entries. -/
theorem meterFault_port_other {s : State} {id other : PortId} (ne : other ≠ id) (empty : (s.port other).entries = []) :
    (meterFault s id).port other = s.port other := by
  have kept := faultPort_port_other s ne
  rw [meterFault_port_of_empty (by rw [kept]; exact empty), kept]

/-! ## Which expiries happen -/

/-- A port's fault, where a test finds its timer expired. -/
def faultWhere (test : State → PortId → Bool) (s : State) (id : PortId) : State :=
  if test s id then meterFault s id else s

theorem faultWhere_of_true {test : State → PortId → Bool} {s : State} {id : PortId} (found : test s id = true) :
    faultWhere test s id = meterFault s id := if_pos found

theorem faultWhere_of_false {test : State → PortId → Bool} {s : State} {id : PortId} (found : test s id = false) :
    faultWhere test s id = s := if_neg (by rw [found]; exact nofun)

section
variable {test : State → PortId → Bool} (needs : ∀ u id, test u id = true → (u.port id).entries ≠ [])
include needs

/-- A port that has just faulted does not expire again. -/
theorem test_meterFault (s : State) (id : PortId) : test (meterFault s id) id = false :=
  Bool.eq_false_iff.mpr fun found => needs _ id found (by rw [meterFault_port]; rfl)

/-- Nor does it after the other port's fault. -/
theorem faultWhere_faulted (s : State) {id other : PortId} (ne : other ≠ id) :
    faultWhere test (faultWhere test (meterFault s id) other) id = faultWhere test (meterFault s id) other := by
  have empty : ((meterFault s id).port id).entries = [] := by rw [meterFault_port]; rfl
  refine faultWhere_of_false (Bool.eq_false_iff.mpr fun found => needs _ id found ?_)
  unfold faultWhere
  split
  · rw [meterFault_port_other ne.symm empty, empty]
  · exact empty

/-- The expiry of one port, and then of the other where it is found expired after it. -/
theorem expireWhere_of_one {s : State} {id other : PortId} (ne : other ≠ id) (found : test s id = true)
    (not_other : test s other = false) : expireWhere test s = faultWhere test (meterFault s id) other := by
  have order : expireWhere test s = faultWhere test (faultWhere test (faultWhere test s .a) .b) .a := by
    refine if_neg ?_
    cases id <;> cases other
    case a.b | b.a => simp [not_other]
    all_goals exact absurd rfl ne
  rw [order]
  cases id <;> cases other
  case a.b => rw [faultWhere_of_true found, faultWhere_faulted needs s ne]
  case b.a => rw [faultWhere_of_false not_other, faultWhere_of_true found]
  all_goals exact absurd rfl ne

/-- Both ports expire in one of the two orders (log entry 5). -/
theorem expireWhere_of_both {s : State} (foundA : test s .a = true) (foundB : test s .b = true) :
    expireWhere test s = faultWhere test (meterFault s .a) .b ∨
      expireWhere test s = faultWhere test (meterFault s .b) .a := by
  by_cases order : (test s .a && test s .b && Config.portBExpiresFirst s.ticks) = true
  · refine .inr ((if_pos order).trans ?_)
    exact congrArg (faultWhere test · .a) (faultWhere_of_true foundB)
  · refine .inl ((if_neg order).trans ?_)
    refine .trans (congrArg (fun u => faultWhere test (faultWhere test u .b) .a) (faultWhere_of_true foundA)) ?_
    exact faultWhere_faulted needs s (by decide)

end

/-! ## The timers -/

/-- A timer is due exactly where its oldest entry's age has reached its value (R57). -/
theorem MeterPort.due_iff (m : MeterPort) :
    m.due = true ↔ ∃ v e, m.timer = some v ∧ m.entries.head? = some e ∧ 10 * v ≤ e.age := by
  unfold MeterPort.due
  rcases m.timer with _ | v
  · simp
  · rcases m.entries with _ | ⟨e, es⟩ <;> simp

theorem MeterPort.entries_of_due {m : MeterPort} (due : m.due = true) : m.entries ≠ [] := by
  obtain ⟨v, e, -, oldest, -⟩ := m.due_iff.mp due
  intro empty
  rw [empty] at oldest
  cases oldest

theorem exec_meterTimeout {s : State} (running : s.ttp.held = false) (id : PortId) :
    exec (.meterTimeout id) s = .next (settleTimers s (expireDue s id)) :=
  congrArg Host.Outcome.next (whileRunning_of_running running _)

/-- Whether an event has moved a port's timer on to an entry already past its timeout (R57). -/
def lateAfter (before u : State) (id : PortId) : Bool := (u.port id).due && movedOn before u id

theorem lateAfter_iff (before u : State) (id : PortId) :
    lateAfter before u id = true ↔
      (∃ v e, (u.port id).timer = some v ∧ (u.port id).entries.head? = some e ∧ 10 * v ≤ e.age) ∧
        (u.port id).entries.head? ≠ (before.port id).entries.head? := by
  rw [lateAfter, Bool.and_eq_true, MeterPort.due_iff, movedOn, bne_iff_ne]

theorem entries_of_lateAfter {before : State} (u : State) (id : PortId) (late : lateAfter before u id = true) :
    (u.port id).entries ≠ [] := by
  rw [lateAfter, Bool.and_eq_true] at late
  exact MeterPort.entries_of_due late.1

/-- Settles O22. -/
theorem meterTimeoutFaultsThePort : Obligations.MeterTimeoutFaultsThePort := by
  unfold Obligations.MeterTimeoutFaultsThePort
  refine ⟨fun id s running => ⟨fun early => ?early, fun due => ?due⟩, fun id s => ⟨faultPort s id, ?fault⟩,
    fun s t => ?settle⟩
  case early =>
    have not_due : (s.port id).due = false := Bool.eq_false_iff.mpr (mt (MeterPort.due_iff _).mp early)
    rw [exec_meterTimeout running, expireDue_of_not_due not_due, settleTimers_self]
  case due => rw [exec_meterTimeout running, expireDue, if_pos ((MeterPort.due_iff _).mpr due)]
  case fault =>
    refine ⟨?_, faultPort_frame s id, faultPort_port s id, fun other ne => faultPort_port_other s ne, faultPort_record s id⟩
    cases id <;> rfl
  case settle =>
    have then_other (id other : PortId) (settled : settleTimers s t = faultWhere (lateAfter s) (meterFault t id) other) :
        (lateAfter s (meterFault t id) other = true → settleTimers s t = meterFault (meterFault t id) other) ∧
          (¬lateAfter s (meterFault t id) other = true → settleTimers s t = meterFault t id) :=
      ⟨fun late => settled.trans (if_pos late), fun early => settled.trans (if_neg early)⟩
    simp only [← lateAfter_iff]
    refine ⟨fun earlyA earlyB => ?_, fun id other ne late early => ?_, fun lateA lateB => ?_⟩
    · exact expireWhere_of_none (Bool.eq_false_iff.mpr earlyA) (Bool.eq_false_iff.mpr earlyB)
    · exact then_other id other (expireWhere_of_one entries_of_lateAfter ne late (Bool.eq_false_iff.mpr early))
    · exact (expireWhere_of_both entries_of_lateAfter lateA lateB).imp (then_other .a .b) (then_other .b .a)

end Sys2Proof.Machine
end

section
/-! PROOF. An idle tick (R57, R58, R61, R127, R134): the expiries of the meter timers, the ends of the pulses that have run
their width, and the 0.1 ms that passes. -/

namespace Sys2Proof.Machine

/-! ## The pulses of a tick -/

theorem expirePulse_pulse (s : State) (l m : Line) :
    (expirePulse s l).pulse m =
      if m = l then (s.pulse m).filter fun p => decide (p.elapsed < p.width) else s.pulse m := by
  by_cases ran : ∃ p, s.pulse l = some p ∧ p.width ≤ p.elapsed
  · obtain ⟨p, pulse, width⟩ := ran
    rw [expirePulse_of_run pulse width, (endPulse_ended s l).pulse]
    simp only [List.mem_singleton]
    refine if_ctx_congr .rfl (fun here => ?_) fun _ => rfl
    rw [here, pulse, Option.filter_some, if_neg (by simpa using width)]
  · rw [expirePulse_of_not_run ran]
    split
    next here =>
      subst here
      rcases pulse : s.pulse m with _ | p
      · rfl
      · have short : p.elapsed < p.width := Nat.not_le.mp fun width => ran ⟨p, pulse, width⟩
        rw [Option.filter_some, if_pos (by simpa using short)]
    next => rfl

theorem foldl_expirePulse_pulse (ls : List Line) (s : State) (m : Line) :
    (ls.foldl expirePulse s).pulse m =
      if m ∈ ls then (s.pulse m).filter fun p => decide (p.elapsed < p.width) else s.pulse m := by
  induction ls generalizing s with
  | nil => rfl
  | cons l ls ih =>
    rw [List.foldl_cons, ih, expirePulse_pulse]
    by_cases here : m = l
    · simp [here, Option.filter_filter]
    · simp [here]

theorem foldl_expirePulse_frame (ls : List Line) (s : State) :
    ls.foldl expirePulse s =
      { s with
        gates := (ls.foldl expirePulse s).gates, bins := (ls.foldl expirePulse s).bins
        svl := { s.svl with attention := (ls.foldl expirePulse s).svl.attention } } := by
  induction ls generalizing s with
  | nil => rfl
  | cons l ls ih =>
    rw [List.foldl_cons, ih]
    rw [expirePulse_frame]

/-- The pulses' ends raise no METER_FAULT. -/
theorem foldl_expirePulse_meterFault (ls : List Line) (s : State) :
    (ls.foldl expirePulse s).svl.attention.meterFault = s.svl.attention.meterFault := by
  refine List.foldlRecOn ls expirePulse (motive := fun t => t.svl.attention.meterFault = s.svl.attention.meterFault) rfl
    fun t same l _ => .trans ?_ same
  by_cases ran : ∃ p, t.pulse l = some p ∧ p.width ≤ p.elapsed
  · obtain ⟨p, pulse, width⟩ := ran
    rw [expirePulse_of_run pulse width, (endPulse_ended t l).attention]
  · rw [expirePulse_of_not_run ran]

/-- What is left of a tick after the expiries of the meter timers. -/
def afterExpiries (s : State) : State := passTime ((List.finRange 16).foldl expirePulse s)

theorem afterExpiries_frame (s : State) :
    afterExpiries s =
      { s with
        portA := s.portA.aged, portB := s.portB.aged
        gates := (afterExpiries s).gates, bins := (afterExpiries s).bins
        svl := { s.svl with attention := (afterExpiries s).svl.attention }
        ticks := s.ticks + 1 } := by
  unfold afterExpiries
  rw [passTime_eq, foldl_expirePulse_frame]

theorem afterExpiries_port (s : State) (id : PortId) : (afterExpiries s).port id = (s.port id).aged := by
  rw [afterExpiries_frame]
  cases id <;> rfl

theorem afterExpiries_meterFault (s : State) :
    (afterExpiries s).svl.attention.meterFault = s.svl.attention.meterFault := by
  rw [afterExpiries, passTime_eq, ← foldl_expirePulse_meterFault (List.finRange 16) s]

theorem afterExpiries_pulse (s : State) (l : Line) :
    (afterExpiries s).pulse l = ((s.pulse l).filter fun p => decide (p.elapsed < p.width)).map Pulse.aged := by
  rw [afterExpiries, passTime_pulse, foldl_expirePulse_pulse, if_pos (List.mem_finRange l)]

theorem step_of_idle_running {s : State} (idle : s.pending = []) (running : s.ttp.held = false) :
    step s = .next (afterExpiries (expireMeters s)) := by
  rw [step_of_idle idle, tick, whileRunning_of_running running]
  rfl

/-! ## A port's fault with its trip -/

theorem CauseSet.has_add (c : CauseSet) (x y : Cause) : (c.add x).has y = (decide (y = x) || c.has y) := by
  cases x <;> cases y <;> rfl

theorem meterFault_raises (s : State) (id : PortId) : (meterFault s id).svl.attention.meterFault = true := by
  have raised : (faultPort s id).svl.attention.has .meterFault = true := by rw [faultPort_frame]; rfl
  rw [meterFault_eq]
  split
  · exact (Kept.tripTrigger (faultPort s id) _).flags .meterFault raised
  · exact raised

/-- With the setting on a fault trips with the port's cause, and with every cause there was (R58, R156). -/
theorem meterFault_trips {s : State} (on : s.trc.config.onMeterFault = true) (id : PortId) :
    (meterFault s id).ptk.opState = .tripped ∧ (meterFault s id).trc.causes = s.trc.causes.add (faultCause id) ∧
      (meterFault s id).trc.config = s.trc.config := by
  have same : (faultPort s id).trc = s.trc := by rw [faultPort_frame]
  rw [meterFault_eq, if_pos on]
  refine ⟨by rw [tripTrigger_frame], ?_, ?_⟩
  · rw [tripTrigger_trc, same]
  · rw [tripTrigger_trc, same]

theorem meterFault_of_off {s : State} (off : s.trc.config.onMeterFault = false) (id : PortId) :
    meterFault s id = faultPort s id := by
  rw [meterFault_eq, if_neg (by rw [off]; exact nofun)]

/-- Whether a port's timer has reached its value. -/
def timerDue (s : State) (id : PortId) : Bool := (s.port id).due

theorem expireMeters_eq (s : State) : expireMeters s = expireWhere timerDue s := rfl

theorem entries_of_timerDue (s : State) (id : PortId) (due : timerDue s id = true) : (s.port id).entries ≠ [] :=
  MeterPort.entries_of_due due

/-- What a port's fault, and the expiry of the other port after it, leave of both (R58). -/
structure ExpiredFirst (s : State) (id other : PortId) (t : State) : Prop where
  first : t.port id = (s.port id).faulted
  raised : t.svl.attention.meterFault = true
  tripped : s.trc.config.onMeterFault = true → t.ptk.opState = .tripped ∧ t.trc.causes.has (faultCause id) = true
  second : timerDue (meterFault s id) other = true → t.port other = ((meterFault s id).port other).faulted
  early : timerDue (meterFault s id) other = false → t.port other = (meterFault s id).port other

theorem expiredFirst (s : State) {id other : PortId} (ne : other ≠ id) :
    ExpiredFirst s id other (faultWhere timerDue (meterFault s id) other) := by
  have first := meterFault_port s id
  cases due : timerDue (meterFault s id) other with
  | true =>
    rw [faultWhere_of_true due]
    refine ⟨?_, meterFault_raises _ other, fun on => ?_, fun _ => meterFault_port _ other, fun early => ?_⟩
    · rw [meterFault_port_other ne.symm (by rw [first]; rfl), first]
    · obtain ⟨-, causes, config⟩ := meterFault_trips on id
      obtain ⟨tripped, both, -⟩ := meterFault_trips (s := meterFault s id) (by rw [config]; exact on) other
      exact ⟨tripped, by rw [both, causes, CauseSet.has_add, CauseSet.has_add]; simp⟩
    · rw [due] at early; cases early
  | false =>
    rw [faultWhere_of_false due]
    refine ⟨first, meterFault_raises s id, fun on => ?_, fun late => ?_, fun _ => rfl⟩
    · obtain ⟨tripped, causes, -⟩ := meterFault_trips on id
      exact ⟨tripped, by rw [causes, CauseSet.has_add]; simp⟩
    · rw [due] at late; cases late

/-! ## Faults without a trip -/

theorem Part.result_setResult_ne (r : Part) {id other : PortId} (ne : other ≠ id) (x : StationResult) :
    (r.setResult id x).result other = r.result other := by
  cases id <;> cases other
  case a.b | b.a => rfl
  all_goals exact absurd rfl ne

/-- What the faults of some ports without their trips leave (R58). -/
structure PortsFaulted (s : State) (ids : List PortId) (t : State) : Prop where
  frame : t =
    { s with
      ptk := { s.ptk with records := t.ptk.records }, portA := t.portA, portB := t.portB
      svl := { s.svl with attention := t.svl.attention } }
  port : ∀ id, t.port id = if id ∈ ids then (s.port id).faulted else s.port id
  lost : ∀ id ∈ ids, ∀ e ∈ (s.port id).entries, ∀ r, t.record e.pocket = some r → r.result id = some .lost
  record : ∀ q, (∀ id ∈ ids, ∀ e ∈ (s.port id).entries, e.pocket ≠ q) → t.record q = s.record q
  meterFault : t.svl.attention.meterFault = true ↔ s.svl.attention.meterFault = true ∨ ids ≠ []

theorem PortsFaulted.nil (s : State) : PortsFaulted s [] s :=
  ⟨rfl, fun _ => rfl, nofun, fun _ _ => rfl, by simp⟩

theorem PortsFaulted.cons {s t : State} {ids : List PortId} (h : PortsFaulted s ids t) {id : PortId} (fresh : id ∉ ids) :
    PortsFaulted s (id :: ids) (faultPort t id) := by
  have same : t.port id = s.port id := (h.port id).trans (if_neg fresh)
  have record := faultPort_record t id
  rw [same] at record
  refine ⟨?_, fun other => ?_, fun other mem e listed r found => ?_, fun q unnamed => ?_, ?_⟩
  · rw [faultPort_frame, h.frame]
  · by_cases here : other = id
    · subst here
      rw [faultPort_port, same, if_pos List.mem_cons_self]
    · rw [faultPort_port_other t here, h.port]
      simp only [List.mem_cons, here, false_or]
  · rw [record] at found
    by_cases here : other = id
    · subst here
      rw [if_pos (List.mem_map_of_mem listed)] at found
      obtain ⟨w, -, rfl⟩ := Option.map_eq_some_iff.mp found
      exact w.result_setResult other .lost
    · have before := h.lost other ((List.mem_cons.mp mem).resolve_left here) e listed
      split at found
      · obtain ⟨w, was, rfl⟩ := Option.map_eq_some_iff.mp found
        rw [w.result_setResult_ne here, before w was]
      · exact before r found
  · have outside : q ∉ (s.port id).entries.map Outstanding.pocket := fun mem => by
      obtain ⟨e, listed, same⟩ := List.mem_map.mp mem
      exact unnamed id List.mem_cons_self e listed same
    rw [record, if_neg outside]
    exact h.record q fun other mem => unnamed other (List.mem_cons_of_mem _ mem)
  · have raised : (faultPort t id).svl.attention.meterFault = true := by rw [faultPort_frame]; rfl
    exact iff_of_true raised (.inr (List.cons_ne_nil _ _))

/-- With the setting off, or where no timer is due, exactly the ports that are due fault, in either order. -/
theorem expireMeters_faulted {s : State}
    (quiet : s.trc.config.onMeterFault = false ∨ timerDue s .a = false ∧ timerDue s .b = false) :
    ∃ ids, (∀ id, id ∈ ids ↔ timerDue s id = true) ∧ PortsFaulted s ids (expireMeters s) := by
  have none_due (a : timerDue s .a = false) (b : timerDue s .b = false) :
      ∃ ids, (∀ id, id ∈ ids ↔ timerDue s id = true) ∧ PortsFaulted s ids (expireMeters s) := by
    refine ⟨[], fun id => ?_, ?_⟩
    · cases id
      · simp [a]
      · simp [b]
    · rw [show expireMeters s = s from expireWhere_of_none a b]
      exact .nil s
  rcases quiet with off | ⟨a, b⟩
  swap
  · exact none_due a b
  have fault (id : PortId) : meterFault s id = faultPort s id := meterFault_of_off off id
  have off' (id : PortId) : (faultPort s id).trc.config.onMeterFault = false := by rw [faultPort_frame]; exact off
  have still (id other : PortId) (ne : other ≠ id) : timerDue (meterFault s id) other = timerDue s other := by
    rw [fault, timerDue, faultPort_port_other s ne]; rfl
  have both {id other : PortId} (ne : other ≠ id) (due : timerDue s other = true) :
      PortsFaulted s [other, id] (faultWhere timerDue (meterFault s id) other) := by
    rw [faultWhere_of_true (by rw [still id other ne, due]), fault, meterFault_of_off (off' id)]
    exact (PortsFaulted.nil s |>.cons List.not_mem_nil).cons (by simpa using ne)
  have one {id other : PortId} (ne : other ≠ id) (due : timerDue s id = true) (early : timerDue s other = false) :
      PortsFaulted s [id] (expireMeters s) := by
    rw [expireMeters_eq, expireWhere_of_one entries_of_timerDue ne due early,
      faultWhere_of_false (by rw [still id other ne, early]), fault]
    exact PortsFaulted.nil s |>.cons List.not_mem_nil
  cases a : timerDue s .a <;> cases b : timerDue s .b
  case false.false => exact none_due a b
  case true.false => exact ⟨[.a], fun id => by cases id <;> simp [a, b], one (by decide) a b⟩
  case false.true => exact ⟨[.b], fun id => by cases id <;> simp [a, b], one (by decide) b a⟩
  case true.true =>
    rcases expireWhere_of_both (test := timerDue) entries_of_timerDue a b with order | order
    · exact ⟨[.b, .a], fun id => by cases id <;> simp [a, b], expireMeters_eq s ▸ order.symm ▸ both (by decide) b⟩
    · exact ⟨[.a, .b], fun id => by cases id <;> simp [a, b], expireMeters_eq s ▸ order.symm ▸ both (by decide) a⟩

/-! ## The tick -/

theorem timerDue_iff (s : State) (id : PortId) :
    timerDue s id = true ↔
      ∃ v e, (s.port id).timer = some v ∧ (s.port id).entries.head? = some e ∧ 10 * v ≤ e.age :=
  MeterPort.due_iff _

/-- What a tick makes of the two ports where one of them expires first. -/
theorem afterExpiries_expired {s : State} {id other : PortId} (expired : ExpiredFirst s id other (expireMeters s)) :
    (afterExpiries (expireMeters s)).port id = (s.port id).faulted ∧
      (afterExpiries (expireMeters s)).svl.attention.meterFault = true ∧
      (s.trc.config.onMeterFault = true →
        (afterExpiries (expireMeters s)).ptk.opState = .tripped ∧
          (afterExpiries (expireMeters s)).trc.causes.has (faultCause id) = true) ∧
      (timerDue (meterFault s id) other = true →
        (afterExpiries (expireMeters s)).port other = ((meterFault s id).port other).faulted) ∧
      (¬timerDue (meterFault s id) other = true →
        (afterExpiries (expireMeters s)).port other = ((meterFault s id).port other).aged) := by
  obtain ⟨first, raised, tripped, second, early⟩ := expired
  refine ⟨?_, (afterExpiries_meterFault _).trans raised, fun on => ?_, fun due => ?_, fun short => ?_⟩
  · rw [afterExpiries_port, first]; rfl
  · rw [afterExpiries_frame]; exact tripped on
  · rw [afterExpiries_port, second due]; rfl
  · rw [afterExpiries_port, early (Bool.eq_false_iff.mpr short)]

/-- Settles O3. -/
theorem idleTickRunsTheTimers : Obligations.IdleTickRunsTheTimers := by
  unfold Obligations.IdleTickRunsTheTimers
  intro s idle
  refine ⟨fun held => ?held, fun running => ⟨afterExpiries (expireMeters s), step_of_idle_running idle running, ?_, ?_, ?_, ?_⟩⟩
  case held => rw [step_of_idle idle, tick, whileRunning_of_held held]
  · rw [afterExpiries_frame, expireMeters, expireWhere_frame]
  · intro l p pulse
    have same : (expireMeters s).pulse l = some p := by rw [expireMeters, expireWhere_frame]; exact pulse
    rw [afterExpiries_pulse, same, Option.filter_some]
    by_cases width : p.width ≤ p.elapsed
    · rw [if_pos width, if_neg (by simpa using width)]; rfl
    · rw [if_neg width, if_pos (by simpa using width)]; rfl
  · intro l pulse
    have same : (expireMeters s).pulse l = none := by rw [expireMeters, expireWhere_frame]; exact pulse
    rw [afterExpiries_pulse, same]; rfl
  · simp only [← timerDue_iff]
    refine ⟨fun id other ne due early => afterExpiries_expired ?_, fun a b => ?_, fun quiet => ?_⟩
    · rw [expireMeters_eq, expireWhere_of_one entries_of_timerDue ne due (Bool.eq_false_iff.mpr early)]
      exact expiredFirst s ne
    · rcases expireWhere_of_both (test := timerDue) entries_of_timerDue a b with order | order
      · exact .inl (afterExpiries_expired (expireMeters_eq s ▸ order.symm ▸ expiredFirst s (by decide)))
      · exact .inr (afterExpiries_expired (expireMeters_eq s ▸ order.symm ▸ expiredFirst s (by decide)))
    · obtain ⟨ids, listed, faulted⟩ :=
        expireMeters_faulted (quiet.imp id fun ⟨a, b⟩ => ⟨Bool.eq_false_iff.mpr a, Bool.eq_false_iff.mpr b⟩)
      have track : (afterExpiries (expireMeters s)).ptk = (expireMeters s).ptk := by rw [afterExpiries_frame]
      have record (q : PocketNo) : (afterExpiries (expireMeters s)).record q = (expireMeters s).record q := by
        rw [State.record, track]; rfl
      refine ⟨fun id => ⟨fun due => ?_, fun early => ?_⟩, fun id due e mem r found => ?_, fun q unnamed => ?_, ?_⟩
      · rw [afterExpiries_port, faulted.port, if_pos ((listed id).mpr due)]; rfl
      · rw [afterExpiries_port, faulted.port, if_neg (mt (listed id).mp early)]; rfl
      · exact faulted.lost id ((listed id).mpr due) e mem r (by rw [← record, found])
      · rw [record]
        exact faulted.record q fun id mem => unnamed id ((listed id).mp mem)
      · have some_due : ids ≠ [] ↔ timerDue s .a = true ∨ timerDue s .b = true := by
          rw [← listed, ← listed]
          refine ⟨fun some_id => ?_, fun h => h.elim List.ne_nil_of_mem List.ne_nil_of_mem⟩
          obtain ⟨id, mem⟩ := List.exists_mem_of_ne_nil ids some_id
          cases id
          · exact .inl mem
          · exact .inr mem
        rw [afterExpiries_meterFault, faulted.meterFault, some_due, track]
        generalize expireMeters s = e at faulted ⊢
        have after := afterExpiries_frame e
        generalize afterExpiries e = t at after ⊢
        obtain ⟨fault, -⟩ := faulted
        refine ⟨congrArg State.ptk fault, ?_, ?_, ?_, ?_, ?_, ?_, .rfl⟩
        · rw [after]; change e.trc = s.trc; rw [fault]
        · rw [after]; change e.drm = s.drm; rw [fault]
        · rw [after]; change e.ttp = s.ttp; rw [fault]
        · rw [after]; change e.bankA = s.bankA; rw [fault]
        · rw [after]; change e.bankB = s.bankB; rw [fault]
        · have link : e.svl = { s.svl with attention := e.svl.attention } := congrArg State.svl fault
          have same : t.svl = { e.svl with attention := t.svl.attention } := congrArg State.svl after
          rw [link] at same
          exact same

end Sys2Proof.Machine
end

section
/-! PROOF. A port's triggers (R44 to R47) and the match of an answer with its entry (R50, R51, R53). -/

namespace Sys2Proof.Machine

/-! ## Triggers -/

theorem MeterPort.names_eq_false_iff (m : MeterPort) (p : PocketNo) :
    m.names p = false ↔ ∀ e ∈ m.entries, e.pocket ≠ p := by
  simp [MeterPort.names]

section
variable {s : State} {id : PortId} {p : PocketNo} {k : BankId} (here : p = pocketAt s (stationOffset s id))
include here

theorem triggerAt_of_not_due (notDue : triggerDue s id p = none) : triggerAt s id = s := by
  subst here
  simp only [triggerAt, notDue]

omit here in
theorem triggerAt_of_offline (offline : (s.port id).state ≠ .online) : triggerAt s id = s := by
  unfold triggerAt
  dsimp only
  split
  · rfl
  · rw [if_neg offline]

theorem triggerAt_of_room (due : triggerDue s id p = some k) (online : (s.port id).state = .online)
    (room : (s.port id).entries.length < 4) :
    triggerAt s id = s.modPort id fun m => m.triggered p (s.bank k).lot.exponent := by
  subst here
  simp only [triggerAt, due, if_pos online, if_pos room]

theorem triggerAt_of_full (due : triggerDue s id p = some k) (online : (s.port id).state = .online)
    (full : 4 ≤ (s.port id).entries.length) : triggerAt s id = skipTrigger s id p := by
  subst here
  simp only [triggerAt, due, if_pos online, if_neg (Nat.not_lt.mpr full)]

end

theorem skipTrigger_of_some {s : State} {p : PocketNo} {r : Part} (h : s.record p = some r) (id : PortId) :
    skipTrigger s id p =
      (s.modPort id fun m => { m with counts := { m.counts with skipped := satAdd m.counts.skipped 1 } }).setRecord p
        (some (r.setResult id .skipped)) :=
  modPart_of_some ((State.record_modPort s id _ p).trans h) _

theorem exec_triggerFrameSent {s : State} (running : s.ttp.held = false) (id : PortId) :
    exec (.triggerFrameSent id) s = .next (s.modPort id MeterPort.frameSent) :=
  congrArg Host.Outcome.next (whileRunning_of_running running _)

/-- The conditions of R44, in the order of `triggerDue`. -/
def TriggerIsDue (s : State) (id : PortId) (p : PocketNo) (r : Part) (k : BankId) : Prop :=
  r.state = .measuring ∧ r.contact ≠ some .fail ∧ r.result id = none ∧ (∀ e ∈ (s.port id).entries, e.pocket ≠ p) ∧
    (s.port id).state ≠ .absent ∧ (id = .b → (s.bank k).lot.verify = true)

theorem triggerDue_eq_some_iff {s : State} {p : PocketNo} {r : Part} {k : BankId} (record : s.record p = some r)
    (tag : r.tag = some k) (id : PortId) : triggerDue s id p = some k ↔ TriggerIsDue s id p r k := by
  rw [triggerDue_eq_some, MeterPort.names_eq_false_iff, record]
  simp [tag, TriggerIsDue]

/-- A trigger is due for the bank of the record's tag alone. -/
theorem triggerDue_eq_none {s : State} {p : PocketNo} {r : Part} {k : BankId} {id : PortId} (record : s.record p = some r)
    (tag : r.tag = some k) (notDue : ¬TriggerIsDue s id p r k) : triggerDue s id p = none := by
  refine Option.eq_none_iff_forall_ne_some.mpr fun j due => notDue ?_
  obtain ⟨w, found, tagged, -⟩ := triggerDue_eq_some.mp due
  rw [record] at found
  cases found
  rw [tag] at tagged
  cases tagged
  exact (triggerDue_eq_some_iff record tag id).mp due

/-- What a port's share of an index arrival makes of the pocket at its station (R44 to R46). -/
theorem triggerAt_outcomes {s : State} {id : PortId} {p : PocketNo} {r : Part} {k : BankId}
    (here : p = pocketAt s (stationOffset s id)) (record : s.record p = some r) (tag : r.tag = some k) :
    (¬TriggerIsDue s id p r k → triggerAt s id = s) ∧
      (TriggerIsDue s id p r k → (s.port id).state = .faulted → triggerAt s id = s) ∧
      (TriggerIsDue s id p r k → (s.port id).state = .online → (s.port id).entries.length < 4 →
        triggerAt s id = s.modPort id fun m => m.triggered p (s.bank k).lot.exponent) ∧
      (TriggerIsDue s id p r k → (s.port id).state = .online → 4 ≤ (s.port id).entries.length →
        triggerAt s id =
          (s.modPort id fun m => { m with counts := { m.counts with skipped := satAdd m.counts.skipped 1 } }).setRecord p
            (some (r.setResult id .skipped))) := by
  have due := (triggerDue_eq_some_iff record tag id).mpr
  refine ⟨fun notDue => ?_, fun _ faulted => ?_, fun isDue online room => ?_, fun isDue online full => ?_⟩
  · exact triggerAt_of_not_due here (triggerDue_eq_none record tag notDue)
  · exact triggerAt_of_offline (by rw [faulted]; exact nofun)
  · exact triggerAt_of_room here (due isDue) online room
  · rw [triggerAt_of_full here (due isDue) online full, skipTrigger_of_some record]

/-- Settles O18. -/
theorem triggersAreQueuedAndSent : Obligations.TriggersAreQueuedAndSent := by
  unfold Obligations.TriggersAreQueuedAndSent
  refine ⟨fun id s empty => ?empty, fun id s p r k here record tag => ?station, fun id s running => ?sent⟩
  case empty =>
    have empty : s.record (pocketAt s (stationOffset s id)) = none := by cases id <;> exact empty
    exact triggerAt_of_not_due rfl (by simp only [triggerDue, empty])
  case station =>
    cases id with
    | a => exact triggerAt_outcomes (id := .a) here record tag
    | b => exact triggerAt_outcomes (id := .b) here record tag
  case sent =>
    rw [exec_triggerFrameSent running]
    refine ⟨fun idle => congrArg Host.Outcome.next (State.modPort_of_fixed ?_), fun sending => ?_⟩
    · simp only [MeterPort.frameSent, idle]
    · obtain ⟨f, sent⟩ := Option.ne_none_iff_exists'.mp sending
      exact congrArg Host.Outcome.next (State.modPort_congr (by simp only [MeterPort.frameSent, sent]))

/-! ## The match of an answer -/

theorem matchFrame_of_stray {s : State} {id : PortId} {f : ResultFrame} (stray : ∀ e ∈ (s.port id).entries, e.seq ≠ f.seq) :
    matchFrame s id f = s.modPort id fun m => { m with counts := { m.counts with stray := satAdd m.counts.stray 1 } } := by
  have none_left : ((s.port id).entries.dropWhile fun e => e.seq != f.seq) = [] := by
    simpa using stray
  unfold matchFrame
  simp only [none_left]
  rfl

/-- A port after an answer to an entry of its list is taken (R50, R51, R53). -/
def MeterPort.taken (m : MeterPort) (older : Nat) (younger : List Outstanding) (held : Option Int) : MeterPort :=
  { m.setEntries younger with
    held := held
    counts := { m.counts with lost := satAdd m.counts.lost older, taken := satAdd m.counts.taken 1 } }

theorem matchFrame_of_match {s : State} {id : PortId} {f : ResultFrame} {older younger : List Outstanding} {e : Outstanding}
    (list : (s.port id).entries = older ++ e :: younger) (others : ∀ x ∈ older, x.seq ≠ f.seq) (seq : e.seq = f.seq) :
    matchFrame s id f =
      ((writeLost s id older).modPort id fun m =>
          m.taken older.length younger (storedResult (s.port id).held (trefOf s e.pocket) e.pocket f).2).modPart e.pocket
        fun x => x.setResult id (storedResult (s.port id).held (trefOf s e.pocket) e.pocket f).1 := by
  have older_part : ((s.port id).entries.takeWhile fun e => e.seq != f.seq) = older := by
    rw [list, List.takeWhile_append_of_pos (by simpa using others), List.takeWhile_cons_of_neg (by simpa using seq),
      List.append_nil]
  have rest : ((s.port id).entries.dropWhile fun e => e.seq != f.seq) = e :: younger := by
    rw [list, List.dropWhile_append_of_pos (by simpa using others), List.dropWhile_cons_of_neg (by simpa using seq)]
  unfold matchFrame
  simp only [older_part, rest]
  rfl

/-- Settles O20. -/
theorem matchedAnswerIsTaken : Obligations.MatchedAnswerIsTaken := by
  unfold Obligations.MatchedAnswerIsTaken
  refine ⟨fun s p r k record tag => by simp only [trefOf, record, tag], fun r x => ⟨rfl, rfl, rfl, rfl⟩,
    fun id f s => ⟨matchFrame_of_stray, fun older e younger list others seq once => ⟨_, rfl, ?_⟩⟩⟩
  refine ⟨matchFrame_frame s id f, ?_⟩
  rw [list, List.map_append, List.map_cons, List.nodup_append, List.nodup_cons] at once
  obtain ⟨-, ⟨e_once, -⟩, apart⟩ := once
  rw [matchFrame_of_match list others seq]
  generalize storedResult (s.port id).held (trefOf s e.pocket) e.pocket f = stored
  have port (other : PortId) (g : MeterPort → MeterPort) (h : Part → Part) :
      (((writeLost s id older).modPort id g).modPart e.pocket h).port other =
        ((writeLost s id older).modPort id g).port other :=
    State.port_of_ports (by rw [modPart_frame]) (by rw [modPart_frame]) other
  have record (q : PocketNo) (g : MeterPort → MeterPort) (h : Part → Part) :
      (((writeLost s id older).modPort id g).modPart e.pocket h).record q =
        if q = e.pocket then ((writeLost s id older).record q).map h else (writeLost s id older).record q := by
    rw [State.record_modPart, State.record_modPort]
  refine ⟨fun other ne => ?_, ?_, fun x mem => ?_, ?_, fun q outside => ?_⟩
  · rw [port, State.port_modPort_ne _ ne, writeLost_port]
  · rw [port, State.port_modPort_same, writeLost_port]
    have moved : younger ≠ [] → younger.head? ≠ (s.port id).entries.head? := fun some_left same => by
      obtain ⟨y, ys, rfl⟩ := List.exists_cons_of_ne_nil some_left
      rw [list] at same
      rcases older with _ | ⟨x, xs⟩
      · obtain rfl : y = e := by simpa using same
        exact e_once (List.mem_map_of_mem List.mem_cons_self)
      · obtain rfl : y = x := by simpa using same
        exact apart _ (List.mem_map_of_mem List.mem_cons_self) _
          (List.mem_cons_of_mem _ (List.mem_map_of_mem List.mem_cons_self)) rfl
    have timer : ((s.port id).setEntries younger).timer = if younger = [] then none else some (s.port id).timeoutMs := by
      rw [MeterPort.setEntries_timer]
      split
      · rfl
      next some_left => rw [if_neg (moved some_left)]
    rw [← timer]
    rfl
  · have ne : x.pocket ≠ e.pocket := apart _ (List.mem_map_of_mem mem) _ List.mem_cons_self
    rw [record, if_neg ne, writeLost_record, if_pos (List.mem_map_of_mem mem)]
  · have fresh : e.pocket ∉ older.map Outstanding.pocket := fun mem => apart _ mem _ List.mem_cons_self rfl
    rw [record, if_pos rfl, writeLost_record, if_neg fresh]
  · rw [List.map_append, List.mem_append, not_or] at outside
    obtain ⟨not_older, not_e⟩ := outside
    rw [record, if_neg (by simpa using not_e), writeLost_record, if_neg not_older]

end Sys2Proof.Machine
end

section
/-! PROOF. The receiver of a meter port (R48, R49, R184): its bytes one after another, and the thirteenth byte's checks. -/

namespace Sys2Proof.Machine

/-! ## The port while it listens -/

theorem State.modPort_modPort (s : State) (id : PortId) (f g : MeterPort → MeterPort) :
    (s.modPort id f).modPort id g = s.modPort id fun m => g (f m) := by cases id <;> rfl

/-- What follows an event depends on the oldest entries before it alone (R57). -/
theorem settleTimers_congr {s u : State} (oldest : ∀ id, (u.port id).entries.head? = (s.port id).entries.head?) (t : State) :
    settleTimers u t = settleTimers s t := by
  have moved : movedOn u = movedOn s := by
    funext after id
    simp only [movedOn, oldest]
  simp only [settleTimers, moved]

theorem State.modPort_entries {s : State} {id : PortId} {f : MeterPort → MeterPort}
    (kept : (f (s.port id)).entries = (s.port id).entries) (other : PortId) :
    ((s.modPort id f).port other).entries.head? = (s.port other).entries.head? := by
  by_cases here : other = id
  · subst here; rw [State.port_modPort_same, kept]
  · rw [State.port_modPort_ne _ here]

/-- A port's change that keeps its list is followed by no expiry. -/
theorem settleTimers_modPort {s : State} {id : PortId} {f : MeterPort → MeterPort}
    (kept : (f (s.port id)).entries = (s.port id).entries) : settleTimers s (s.modPort id f) = s.modPort id f :=
  settleTimers_of_unmoved (State.modPort_entries kept)

/-! ## One byte -/

section
variable {s : State} {id : PortId} {b : Byte}

theorem takeByte_of_absent (absent : (s.port id).state = .absent) : takeByte id s b = s := by
  rw [takeByte, receiveByte, if_pos absent, settleTimers_self]

variable (fitted : (s.port id).state ≠ .absent)
include fitted

theorem takeByte_of_hunting (hunting : (s.port id).rx = []) (other : b ≠ 0xA5) : takeByte id s b = s := by
  rw [takeByte, receiveByte, if_neg fitted, if_pos ⟨hunting, other⟩, settleTimers_self]

/-- A start byte, or a byte of a frame that is not complete with it, is collected. -/
theorem takeByte_of_collecting (collects : (s.port id).rx ≠ [] ∨ b = 0xA5) (short : ((s.port id).rx ++ [b]).length < 13) :
    takeByte id s b = s.modPort id fun m => { m with rx := m.rx ++ [b] } := by
  have starts : ¬((s.port id).rx = [] ∧ b ≠ startByte) := fun ⟨hunting, other⟩ =>
    collects.elim (fun some_rx => some_rx hunting) other
  rw [takeByte, receiveByte, if_neg fitted, if_neg starts, if_pos short, settleTimers_modPort (by rfl)]

theorem takeByte_of_complete (complete : ((s.port id).rx ++ [b]).length = 13) :
    takeByte id s b = settleTimers s (frameComplete s id ((s.port id).rx ++ [b])) := by
  have starts : ¬((s.port id).rx = [] ∧ b ≠ startByte) := fun ⟨hunting, _⟩ => by
    rw [hunting] at complete
    simp at complete
  rw [takeByte, receiveByte, if_neg fitted, if_neg starts, if_neg (by rw [complete]; exact nofun)]

end

/-! ## The checks of a complete frame (R49) -/

/-- Thirteen bytes have the fields of a frame, the kind at offset 1. -/
theorem resultFrameOf_of_length {bs : List Byte} (complete : bs.length = 13) :
    ∃ f, resultFrameOf bs = some f ∧ bs[1]? = some f.kind :=
  match bs, complete with
  | [_, _, _, _, _, _, _, _, _, _, _, _, _], _ => ⟨_, rfl, rfl⟩

section
variable (s : State) (id : PortId) {bs : List Byte}

theorem frameComplete_of_bad (bad : crcGood bs = false) :
    frameComplete s id bs = s.modPort id fun m =>
      { m with rx := rescan bs.tail, counts := { m.counts with crcErrors := satAdd m.counts.crcErrors 1 } } := by
  simp only [frameComplete, bad]

variable {f : ResultFrame} (good : crcGood bs = true) (fields : resultFrameOf bs = some f)
include good fields

theorem frameComplete_of_good :
    frameComplete s id bs = acceptFrame (s.modPort id fun m => { m with rx := [] }) id f := by
  simp only [frameComplete, good, fields]

theorem frameComplete_of_kind (kind : f.kind ≠ 0x52) :
    frameComplete s id bs = s.modPort id fun m =>
      { m with rx := [], counts := { m.counts with formatErrors := satAdd m.counts.formatErrors 1 } } := by
  rw [frameComplete_of_good s id good fields, acceptFrame, if_pos kind, State.modMeterCounts, State.modPort_modPort]

theorem frameComplete_of_offline (kind : f.kind = 0x52) (offline : (s.port id).state ≠ .online) :
    frameComplete s id bs = s.modPort id fun m =>
      { m with rx := [], counts := { m.counts with stray := satAdd m.counts.stray 1 } } := by
  rw [frameComplete_of_good s id good fields, acceptFrame, if_neg (not_not.mpr kind),
    if_neg (by rw [State.port_modPort_same]; exact offline), State.modMeterCounts, State.modPort_modPort]

theorem frameComplete_of_online (kind : f.kind = 0x52) (online : (s.port id).state = .online) :
    frameComplete s id bs = matchFrame (s.modPort id fun m => { m with rx := [] }) id f := by
  rw [frameComplete_of_good s id good fields, acceptFrame, if_neg (not_not.mpr kind),
    if_pos (by rw [State.port_modPort_same]; exact online)]

end

theorem crcGood_iff (bs : List Byte) : crcGood bs = true ↔ bytesOf 2 (crc16 ((bs.drop 1).take 10)).toNat = bs.drop 11 :=
  beq_iff_eq

/-! ## A whole frame at a hunting receiver (log entry 9) -/

/-- Bytes that leave a frame short are all collected. -/
theorem foldl_takeByte_of_short {s : State} {id : PortId} (fitted : (s.port id).state ≠ .absent) (bs : List Byte)
    (collecting : (s.port id).rx ≠ []) (short : ((s.port id).rx ++ bs).length < 13) :
    bs.foldl (takeByte id) s = s.modPort id fun m => { m with rx := m.rx ++ bs } := by
  induction bs generalizing s with
  | nil => exact (State.modPort_of_fixed (by simp)).symm
  | cons b bs ih =>
    have first : ((s.port id).rx ++ [b]).length < 13 := by
      simp only [List.length_append, List.length_cons, List.length_nil] at short ⊢
      omega
    rw [List.foldl_cons, takeByte_of_collecting fitted (.inl collecting) first, ih, State.modPort_modPort]
    · simp only [List.append_assoc, List.singleton_append]
    · rw [State.port_modPort_same]; exact fitted
    · rw [State.port_modPort_same]; simp
    · rw [State.port_modPort_same, List.append_assoc]; exact short

/-- A frame that starts with the start byte at a hunting receiver is checked at its last byte. -/
theorem foldl_takeByte_of_frame {s : State} {id : PortId} (fitted : (s.port id).state ≠ .absent) (hunting : (s.port id).rx = [])
    {frame : List Byte} (complete : frame.length = 13) (start : frame.head? = some 0xA5) :
    frame.foldl (takeByte id) s =
      settleTimers s (frameComplete (s.modPort id fun m => { m with rx := frame.dropLast }) id frame) := by
  obtain ⟨rest, rfl⟩ : ∃ rest, frame = 0xA5 :: rest := List.head?_eq_some_iff.mp start
  have some_rest : rest ≠ [] := by rintro rfl; simp at complete
  obtain ⟨mid, last, rfl⟩ : ∃ mid last, rest = mid ++ [last] :=
    ⟨_, _, (List.dropLast_append_getLast some_rest).symm⟩
  have twelve : mid.length = 11 := by simpa using complete
  have started : takeByte id s 0xA5 = s.modPort id fun m => { m with rx := [0xA5] } := by
    rw [takeByte_of_collecting fitted (.inr rfl) (by rw [hunting]; decide)]
    exact State.modPort_congr (by rw [hunting]; rfl)
  have port (bs : List Byte) : (s.modPort id fun m => { m with rx := bs }).port id = { s.port id with rx := bs } :=
    State.port_modPort_same s id _
  have collected : mid.foldl (takeByte id) (s.modPort id fun m => { m with rx := [0xA5] }) =
      s.modPort id fun m => { m with rx := 0xA5 :: mid } := by
    rw [foldl_takeByte_of_short (by rw [port]; exact fitted) mid (by rw [port]; exact List.cons_ne_nil _ _)
      (by rw [port]; simp [twelve]), State.modPort_modPort]
    rfl
  have last_byte : ((s.modPort id fun m => { m with rx := 0xA5 :: mid }).port id).rx ++ [last] = 0xA5 :: (mid ++ [last]) := by
    rw [port]; rfl
  rw [List.foldl_cons, List.foldl_append, started, collected, List.foldl_cons, List.foldl_nil,
    takeByte_of_complete (by rw [port]; exact fitted) (by rw [last_byte]; exact complete), last_byte,
    settleTimers_congr (State.modPort_entries (by rfl)), ← List.cons_append, List.dropLast_concat]

/-! ## The commands -/

theorem exec_meterByteReceived {s : State} (running : s.ttp.held = false) (id : PortId) (b : Byte) (stop : Bool) :
    exec (.meterByteReceived id (charLevels b stop)) s = .next (takeByte id s b) := by
  refine (congrArg Host.Outcome.next (whileRunning_of_running running _)).trans ?_
  rw [byteOfLevels_charLevels]

theorem exec_frameArrival {s : State} (running : s.ttp.held = false) (id : PortId) (frame : List Byte) :
    exec (.frameArrival id frame) s = .next (frame.foldl (takeByte id) s) :=
  congrArg Host.Outcome.next (whileRunning_of_running running _)

theorem exec_frameArrival_of_held {s : State} (held : s.ttp.held = true) (id : PortId) (frame : List Byte) :
    exec (.frameArrival id frame) s = .next s :=
  congrArg Host.Outcome.next (whileRunning_of_held held _)

theorem takeByte_held (id : PortId) (s : State) (b : Byte) : (takeByte id s b).ttp.held = s.ttp.held := by
  obtain ⟨held, -⟩ := Changes.own (takeByte_changes (c := .actionComplete) id s b)
  exact held

/-- A whole frame is its first byte and then the rest of it (log entry 9). -/
theorem exec_frameArrival_cons (id : PortId) (b : Byte) (stop : Bool) (frame : List Byte) (s : State) :
    ∃ u, exec (.meterByteReceived id (charLevels b stop)) s = .next u ∧
      exec (.frameArrival id (b :: frame)) s = exec (.frameArrival id frame) u := by
  cases held : s.ttp.held with
  | true =>
    refine ⟨s, congrArg Host.Outcome.next (whileRunning_of_held held _), ?_⟩
    rw [exec_frameArrival_of_held held, exec_frameArrival_of_held held]
  | false =>
    refine ⟨takeByte id s b, exec_meterByteReceived held id b stop, ?_⟩
    rw [exec_frameArrival held, exec_frameArrival ((takeByte_held id s b).trans held), List.foldl_cons]

theorem foldl_takeByte_of_absent {s : State} {id : PortId} (absent : (s.port id).state = .absent) (frame : List Byte) :
    frame.foldl (takeByte id) s = s :=
  List.foldlRecOn frame (takeByte id) (motive := (· = s)) rfl fun t same b _ => by
    subst same
    exact takeByte_of_absent absent

/-- Settles O19. -/
theorem receiverFramesAndChecks : Obligations.ReceiverFramesAndChecks := by
  unfold Obligations.ReceiverFramesAndChecks
  refine ⟨fun id b stop s running => ?byte, fun id s => ?nothing, exec_frameArrival_cons,
    fun id frame f s running hunting complete start fields kind good => ?frame⟩
  case byte =>
    rw [exec_meterByteReceived running]
    refine ⟨fun absent => ?_, fun fitted hunting other => ?_, fun fitted hunting start => ?_,
      fun fitted collecting short => ?_, fun fitted complete => ?_⟩
    · rw [takeByte_of_absent absent]
    · rw [takeByte_of_hunting fitted hunting other]
    · rw [takeByte_of_collecting fitted (.inr start) (by rw [hunting]; simp)]
      exact congrArg Host.Outcome.next (State.modPort_congr (by rw [hunting, start]; rfl))
    · rw [takeByte_of_collecting fitted (.inl collecting) short]
    · rw [takeByte_of_complete fitted complete]
      obtain ⟨f, fields, kind⟩ := resultFrameOf_of_length complete
      simp only [← crcGood_iff, kind, Option.some.injEq, ne_eq]
      refine ⟨fun bad => ?_, fun good => ⟨fun other => ?_, fun result faulted => ?_, fun result online => ⟨f, fields, ?_⟩⟩⟩
      · rw [frameComplete_of_bad s id (Bool.eq_false_iff.mpr bad), settleTimers_modPort (by rfl)]
        rfl
      · rw [frameComplete_of_kind s id good fields other, settleTimers_modPort (by rfl)]
      · rw [frameComplete_of_offline s id good fields result (by rw [faulted]; exact nofun), settleTimers_modPort (by rfl)]
      · rw [frameComplete_of_online s id good fields result online]
  case nothing =>
    cases held : s.ttp.held with
    | true => exact exec_frameArrival_of_held held id []
    | false => exact exec_frameArrival held id []
  case frame =>
    rw [exec_frameArrival running]
    have good := (crcGood_iff frame).mpr good
    have cleared : ((s.modPort id fun m => { m with rx := frame.dropLast }).modPort id fun m => { m with rx := [] }) = s := by
      rw [State.modPort_modPort]
      exact State.modPort_of_fixed (by rw [← hunting])
    refine ⟨fun online => ?_, fun faulted => ?_, fun absent => by rw [foldl_takeByte_of_absent absent]⟩
    · rw [foldl_takeByte_of_frame (by rw [online]; exact nofun) hunting complete start,
        frameComplete_of_online _ id good fields kind (by rw [State.port_modPort_same]; exact online), cleared]
    · rw [foldl_takeByte_of_frame (by rw [faulted]; exact nofun) hunting complete start,
        frameComplete_of_offline _ id good fields kind (by rw [State.port_modPort_same, faulted]; exact nofun),
        State.modPort_modPort, settleTimers_modPort (by rfl)]
      exact congrArg Host.Outcome.next (State.modPort_congr (by rw [← hunting]))

end Sys2Proof.Machine
end

section
/-! PROOF. Stage 1 of the deviation arithmetic (R67, R68) on the ranges of section 4.8. -/

namespace Sys2Proof.Machine

/-- A quotient is not below the negative of a bound that its exact value is not below. -/
theorem neg_le_roundDiv {n : Int} {b d : Nat} (h : -((b : Int) * d) ≤ n) : -(b : Int) ≤ roundDiv n d := by
  rcases Int.le_total 0 n with above | below
  · obtain ⟨a, rfl⟩ := Int.eq_ofNat_of_zero_le above
    rw [roundDiv_natCast]
    exact (neg_nonpos.mpr (Int.natCast_nonneg b)).trans (Int.natCast_nonneg _)
  · have size := natAbs_roundDiv_le (n := n) (d := d) (b := b) (by
      zify
      rw [abs_of_nonpos below]
      omega)
    omega

theorem stage1_of_over {m : Nat} {e : Int} {lot : Lot} (h : 2 ≤ e - lot.exponent) : stage1 m e lot = .over :=
  if_pos h

theorem stage1_of_under {m : Nat} {e : Int} {lot : Lot} (h : e - lot.exponent ≤ -2) : stage1 m e lot = .under :=
  (if_neg (by omega)).trans (if_pos h)

/-- Within one decade of the lot's exponent the raw deviation is the rounded quotient of Table 4.3 (R68). -/
theorem stage1_of_aligned {m : Nat} {e : Int} {lot : Lot} {num : Int} {den : Nat} (low : -1 ≤ e - lot.exponent)
    (high : e - lot.exponent ≤ 1) (fraction : rawFraction m lot.nominal (e - lot.exponent) = (num, den)) :
    stage1 m e lot =
      if 999999 < roundDiv (num * 1000000) den then .over else .value (roundDiv (num * 1000000) den) := by
  refine (if_neg (by omega)).trans ((if_neg (by omega)).trans ?_)
  rw [fraction]

/-- Settles O26: the ceiling of the raw deviation is `neg_le_roundDiv` at each of the three exponent differences. -/
theorem stageOneVerdictsAndRange : Obligations.StageOneVerdictsAndRange := by
  unfold Obligations.StageOneVerdictsAndRange
  intro m e lot meets mLow mHigh _ _
  obtain ⟨⟨nLow, nHigh⟩, -⟩ := meets
  refine ⟨stage1_of_over, stage1_of_under, fun low high => ?_⟩
  have range (num : Int) (den : Nat) (b : Nat) (h : -((b : Int) * den) ≤ num * 1000000) :
      -(b : Int) ≤ roundDiv (num * 1000000) den := neg_le_roundDiv h
  have differences : e - lot.exponent = 1 ∨ e - lot.exponent = 0 ∨ e - lot.exponent = -1 := by omega
  rcases differences with d | d | d
  · refine ⟨m * 10 - lot.nominal, lot.nominal, fun _ => ⟨rfl, rfl⟩, fun _ => by omega, fun _ => by omega, by omega, nLow,
      by omega, stage1_of_aligned low high (by rw [d]; rfl), range _ _ 990000 (by omega), fun _ => by omega⟩
  · refine ⟨m - lot.nominal, lot.nominal, fun _ => by omega, fun _ => ⟨rfl, rfl⟩, fun _ => by omega, by omega, nLow,
      by omega, stage1_of_aligned low high (by rw [d]; rfl), range _ _ 990000 (by omega),
      fun _ => range _ _ 900000 (by omega)⟩
  · refine ⟨m - 10 * lot.nominal, 10 * lot.nominal, fun _ => by omega, fun _ => by omega, fun _ => ⟨rfl, rfl⟩, by omega,
      by omega, by omega, stage1_of_aligned low high (by rw [d]; rfl), range _ _ 990000 (by omega), fun _ => by omega⟩

end Sys2Proof.Machine
end

section
/-! PROOF. The first tests at the decision point (R55, R95, R96; Table 5.6). -/

namespace Sys2Proof.Machine

/-! ## The expiry of the pocket's entries (R55) -/

/-- A port after a pocket's entries on it have expired. -/
def MeterPort.expired (m : MeterPort) (p : PocketNo) : MeterPort :=
  { m.without p with counts := { m.counts with expired := satAdd m.counts.expired (m.naming p).length } }

theorem expireEntry_port (s : State) (id : PortId) (p : PocketNo) :
    (expireEntry s id p).port id = if (s.port id).naming p = [] then s.port id else (s.port id).expired p := by
  unfold expireEntry
  split
  · rfl
  · exact State.port_modPort_same s id _

/-- The state after a pocket's entries on both ports have expired. -/
def expireBoth (s : State) (p : PocketNo) : State := expireEntry (expireEntry s .a p) .b p

theorem expireBoth_frame (s : State) (p : PocketNo) :
    expireBoth s p = { s with portA := (expireBoth s p).portA, portB := (expireBoth s p).portB } := by
  unfold expireBoth
  rw [expireEntry_frame]
  rw [expireEntry_frame s .a p]

theorem expireBoth_port (s : State) (p : PocketNo) (id : PortId) :
    (expireBoth s p).port id = if (s.port id).naming p = [] then s.port id else (s.port id).expired p := by
  unfold expireBoth
  cases id with
  | a => rw [expireEntry_port_other _ p (by decide), expireEntry_port]
  | b => rw [expireEntry_port, expireEntry_port_other s p (by decide)]

theorem expireBoth_record (s : State) (p q : PocketNo) : (expireBoth s p).record q = s.record q := by
  rw [expireBoth, expireEntry_record, expireEntry_record]

theorem expireBoth_bank (s : State) (p : PocketNo) (k : BankId) : (expireBoth s p).bank k = s.bank k := by
  rw [expireBoth, expireEntry_bank, expireEntry_bank]

/-! ## The grading of a record -/

section
variable {s : State} {p : PocketNo} (here : p = pocketAt s s.ptk.ring.decision)
include here

theorem gradeAtDecision_of_none (empty : s.record p = none) : gradeAtDecision s = expireBoth s p := by
  subst here
  have record := (expireBoth_record s (pocketAt s s.ptk.ring.decision) (pocketAt s s.ptk.ring.decision)).trans empty
  rw [expireBoth] at record ⊢
  simp only [gradeAtDecision, record]

variable {r : Part} (h : s.record p = some r)
include h

theorem gradeAtDecision_of_some :
    gradeAtDecision s = if r.state = .measuring then gradeRecord (expireBoth s p) p r else expireBoth s p := by
  subst here
  have record := (expireBoth_record s (pocketAt s s.ptk.ring.decision) (pocketAt s s.ptk.ring.decision)).trans h
  rw [expireBoth] at record ⊢
  simp only [gradeAtDecision, record]

variable {k : BankId} (measuring : r.state = .measuring) (tag : r.tag = some k)
include measuring tag

theorem gradeAtDecision_of_reference (kind : r.kind = .reference) :
    gradeAtDecision s = gradeReference (expireBoth s p) p k r := by
  rw [gradeAtDecision_of_some here h, if_pos measuring]
  simp only [gradeRecord, kind, tag]

theorem gradeAtDecision_of_product (kind : r.kind = .product) :
    gradeAtDecision s =
      if recirculating s then recircPocket (expireBoth s p) p else gradeProduct (expireBoth s p) p k r := by
  have same : recirculating (expireBoth s p) = recirculating s := by rw [expireBoth_frame]; rfl
  rw [gradeAtDecision_of_some here h, if_pos measuring]
  simp only [gradeRecord, kind, tag, same]

end

/-! ## Contact, MEASURE and VERIFY (R96) -/

/-- R96's table: the class that a result without a reading raises. -/
def Misses (x : Option StationResult) (c : PartClass) : Prop :=
  ((x = none ∨ x = some .skipped ∨ x = some .lost ∨ x = some .invalid) ∧ c = .missing) ∨
    (x = some .openCircuit ∧ c = .openPart) ∨ (x = some .short ∧ c = .shortPart) ∨ (x = some .overload ∧ c = .overrange)

theorem resultClass_of_misses {x : Option StationResult} {c : PartClass} (h : Misses x c) : resultClass x = .inl c := by
  rcases h with ⟨x | x | x | x, c⟩ | ⟨x, c⟩ | ⟨x, c⟩ | ⟨x, c⟩ <;> rw [x, c] <;> rfl

section
variable {s : State} {p : PocketNo} {k : BankId} {r : Part}

theorem gradeProduct_of_contact (fail : r.contact = some .fail) :
    gradeProduct s p k r = raiseClass s p k r .contactFail none := if_pos fail

variable (contact : r.contact ≠ some .fail)
include contact

theorem gradeProduct_of_measure {c : PartClass} (misses : resultClass r.measure = .inl c) :
    gradeProduct s p k r = raiseClass s p k r c none := by
  refine (if_neg contact).trans ?_
  rw [misses]

variable {m : Reading} (measure : resultClass r.measure = .inr m)
include measure

theorem gradeProduct_of_unverified (unverified : (s.bank k).lot.verify = false) :
    gradeProduct s p k r = gradeOutcome s p k r (productOutcome (s.bank k).lot (offsetPair s) m none) := by
  refine (if_neg contact).trans ?_
  simp only [measure, unverified]
  rfl

variable (verified : (s.bank k).lot.verify = true)
include verified

theorem gradeProduct_of_verify {c : PartClass} (misses : resultClass r.verify = .inl c) :
    gradeProduct s p k r = raiseClass s p k r c none := by
  refine (if_neg contact).trans ?_
  simp only [measure, verified, misses]
  rfl

theorem gradeProduct_of_both {v : Reading} (verify : resultClass r.verify = .inr v) :
    gradeProduct s p k r = gradeOutcome s p k r (productOutcome (s.bank k).lot (offsetPair s) m (some v)) := by
  refine (if_neg contact).trans ?_
  simp only [measure, verified, verify]
  rfl

end

/-- Settles O31. -/
theorem decisionPointTestsInOrder : Obligations.DecisionPointTestsInOrder := by
  unfold Obligations.DecisionPointTestsInOrder
  intro s p here
  refine ⟨fun id => ⟨fun none_named => ?_, fun named => ?_⟩, expireBoth_frame s p, gradeAtDecision_of_none here,
    fun r h => ⟨fun other => ?_, fun measuring k tag => ⟨gradeAtDecision_of_reference here h measuring tag,
      fun kind => ⟨fun tripped action => ?_, fun grades => ?_⟩⟩⟩⟩
  · exact (expireBoth_port s p id).trans (if_pos none_named)
  · exact (expireBoth_port s p id).trans (if_neg named)
  · rw [gradeAtDecision_of_some here h, if_neg other]
    rfl
  · rw [gradeAtDecision_of_product here h measuring tag kind, if_pos (by simp [recirculating, tripped, action])]
    rfl
  · have graded : ¬recirculating s = true := by simpa [recirculating, imp_iff_not_or] using grades
    rw [gradeAtDecision_of_product here h measuring tag kind, if_neg graded]
    have lot : ((expireBoth s p).bank k).lot = (s.bank k).lot := by rw [expireBoth_bank]
    have offsets : offsetPair (expireBoth s p) = ⟨s.drm.applied, s.drm.target⟩ := by rw [expireBoth_frame]; rfl
    rw [← lot, ← offsets]
    refine ⟨gradeProduct_of_contact, fun contact => ⟨fun c misses => ?_, fun m e t measure => ?_⟩⟩
    · exact gradeProduct_of_measure contact (resultClass_of_misses misses)
    · have reading : resultClass r.measure = .inr ⟨m, e, t⟩ := by rw [measure]; rfl
      refine ⟨gradeProduct_of_unverified contact reading, fun verified => ⟨fun c misses => ?_, fun m' e' t' verify => ?_⟩⟩
      · exact gradeProduct_of_verify contact reading verified (resultClass_of_misses misses)
      · exact gradeProduct_of_both contact reading verified (by rw [verify]; rfl)

end Sys2Proof.Machine
end

section
/-! PROOF. CLEAR_TRACK (R24, R54): what clearing one pocket leaves of the bins, the banks and the flags, and so what clearing
the ring's pockets one after another leaves. -/

namespace Sys2Proof.Machine

/-! ## A flag that marks a change of state -/

/-- A family whose members stay or move from one state to another, and a flag raised exactly where one moves. -/
structure Entered {ι α : Type} (x y : α) (before after : ι → α) (flag flag' : Bool) : Prop where
  moves : ∀ i, after i = before i ∨ (before i = x ∧ after i = y)
  raised : flag' = true ↔ flag = true ∨ ∃ i, before i = x ∧ after i = y

section
variable {ι α : Type} {x y : α} {before mid after : ι → α} {flag flag' flag'' : Bool}

theorem Entered.of_still (ne : x ≠ y) (same : ∀ i, after i = before i) (kept : flag' = flag) :
    Entered x y before after flag flag' := by
  refine ⟨fun i => .inl (same i), ?_⟩
  rw [kept]
  refine ⟨.inl, fun h => h.elim id fun ⟨i, start, stop⟩ => absurd (start.symm.trans ((same i).symm.trans stop)) ne⟩

theorem Entered.trans (ne : x ≠ y) (first : Entered x y before mid flag flag') (second : Entered x y mid after flag' flag'') :
    Entered x y before after flag flag'' := by
  refine ⟨fun i => ?_, ?_⟩
  · rcases first.moves i with same | ⟨start, stop⟩
    · rw [← same]; exact second.moves i
    · rcases second.moves i with same | ⟨again, -⟩
      · exact .inr ⟨start, same.trans stop⟩
      · exact absurd (again.symm.trans stop) ne
  · rw [second.raised, first.raised]
    constructor
    · rintro ((set | ⟨i, start, stop⟩) | ⟨i, start, stop⟩)
      · exact .inl set
      · rcases second.moves i with same | ⟨again, -⟩
        · exact .inr ⟨i, start, same.trans stop⟩
        · exact absurd (again.symm.trans stop) ne
      · rcases first.moves i with same | ⟨-, stopped⟩
        · exact .inr ⟨i, same.symm.trans start, stop⟩
        · exact absurd (start.symm.trans stopped) ne
    · rintro (set | ⟨i, start, stop⟩)
      · exact .inl (.inl set)
      · rcases first.moves i with same | ⟨-, stopped⟩
        · exact .inr ⟨i, same.trans start, stop⟩
        · exact .inl (.inr ⟨i, start, stopped⟩)

end

/-! ## Bins -/

theorem BinRec.released_state (r : BinRec) (busy : Bool) (n : Nat) :
    (r.released busy n).state = r.state ∨ (r.state = .draining ∧ (r.released busy n).state = .exchange) := by
  unfold BinRec.released
  dsimp only
  split
  next drained => exact .inr ⟨drained.1, rfl⟩
  next => exact .inl rfl

/-- A drain that is completed raises SWAP_READY (R119). -/
abbrev SwapReadyKept (s t : State) : Prop :=
  Entered .draining .exchange (fun b => (s.bin b).state) (fun b => (t.bin b).state) s.svl.attention.swapReady
    t.svl.attention.swapReady

theorem SwapReadyKept.trans {s t u : State} (first : SwapReadyKept s t) (second : SwapReadyKept t u) : SwapReadyKept s u :=
  Entered.trans nofun first second

theorem release_swapReadyKept (s : State) (b : SortBin) : SwapReadyKept s (release s b) := by
  have moves (c : SortBin) : ((release s b).bin c).state = (s.bin c).state ∨
      ((s.bin c).state = .draining ∧ ((release s b).bin c).state = .exchange) := by
    rw [release_bin]
    exact BinRec.released_state _ _ _
  refine ⟨moves, (release_drains s b).swapReady_iff.trans (or_congr_right (exists_congr fun c => ?_))⟩
  refine and_congr_left fun entered => ⟨fun other => ?_, fun draining => by rw [draining]; exact nofun⟩
  rcases moves c with same | ⟨draining, -⟩
  · exact absurd (same.symm.trans entered) other
  · exact draining

/-! ## Banks -/

/-- A bank after `n` of its parts are cleared (R24, R94). -/
def Bank.cleared (k : Bank) (n : Nat) : Bank :=
  { k with
    onRing := k.onRing - n
    state := if k.state = .draining ∧ 0 < n ∧ k.onRing ≤ n then .standby else k.state
    counts := { k.counts with cleared := k.counts.cleared + BitVec.ofNat 32 n } }

@[simp] theorem Bank.cleared_zero (k : Bank) : k.cleared 0 = k := by
  simp [Bank.cleared]

theorem Bank.cleared_cleared (k : Bank) (m n : Nat) : (k.cleared m).cleared n = k.cleared (m + n) := by
  have state : ((k.cleared m).cleared n).state = (k.cleared (m + n)).state := by
    by_cases freed : k.state = .draining ∧ 0 < m ∧ k.onRing ≤ m
    · have total : k.state = .draining ∧ 0 < m + n ∧ k.onRing ≤ m + n := by
        obtain ⟨draining, some, all⟩ := freed
        exact ⟨draining, by omega, by omega⟩
      simp only [Bank.cleared, if_pos freed, if_pos total, reduceCtorEq, false_and, if_false]
    · have same : (k.state = .draining ∧ 0 < n ∧ k.onRing - m ≤ n) ↔
          (k.state = .draining ∧ 0 < m + n ∧ k.onRing ≤ m + n) := by
        refine and_congr_right fun draining => ?_
        have late : ¬(0 < m ∧ k.onRing ≤ m) := fun e => freed ⟨draining, e.1, e.2⟩
        omega
      simp only [Bank.cleared, if_neg freed, same]
  have counts : k.counts.cleared + BitVec.ofNat 32 m + BitVec.ofNat 32 n = k.counts.cleared + BitVec.ofNat 32 (m + n) := by
    rw [BitVec.add_assoc, BitVec.ofNat_add]
  have onRing : k.onRing - m - n = k.onRing - (m + n) := Nat.sub_sub ..
  rw [Bank.mk.injEq]
  refine ⟨state, rfl, rfl, rfl, onRing, ?_⟩
  simp only [Bank.cleared, counts]

/-- A draining that ends raises BANK_FREE (R94). -/
abbrev BankFreeKept (s t : State) : Prop :=
  Entered .draining .standby (fun k => (s.bank k).state) (fun k => (t.bank k).state) s.svl.attention.bankFree
    t.svl.attention.bankFree

theorem BankFreeKept.trans {s t u : State} (first : BankFreeKept s t) (second : BankFreeKept t u) : BankFreeKept s u :=
  Entered.trans nofun first second

theorem departure_bankFreeKept (s : State) (r : Part) : BankFreeKept s (departure s r.tag) := by
  refine ⟨fun k => ?_, (departure_bankFree_iff s r).trans (or_congr_right (exists_congr fun k => ?_))⟩
  all_goals rw [bank_departure]
  · split
    · dsimp only
      split
      next freed => exact .inr ⟨freed.1, rfl⟩
      next => exact .inl rfl
    · exact .inl rfl
  · unfold frees
    by_cases tagged : r.tag = some k
    · rw [if_pos tagged]
      dsimp only
      by_cases freed : (s.bank k).state = .draining ∧ (s.bank k).onRing - 1 = 0
      · rw [if_pos freed]; exact ⟨fun h => ⟨h.2.1, rfl⟩, fun _ => ⟨tagged, freed⟩⟩
      · rw [if_neg freed]
        refine ⟨fun h => absurd h.2 freed, fun ⟨draining, standby⟩ => ?_⟩
        rw [draining] at standby
        cases standby
    · rw [if_neg tagged]
      refine ⟨fun h => absurd h.1 tagged, fun ⟨draining, standby⟩ => ?_⟩
      rw [draining] at standby
      cases standby

/-! ## One pocket -/

/-- Whether a pocket's record is tagged with a bank. -/
def isTaggedWith (s : State) (k : BankId) (p : PocketNo) : Bool := (s.record p).any fun r => r.tag == some k

theorem clearedReport_bank (s : State) (tag : Option BankId) (k : BankId) :
    (clearedReport s tag).bank k =
      if tag = some k then
        { s.bank k with counts := { (s.bank k).counts with cleared := (s.bank k).counts.cleared + 1 } }
      else s.bank k := by
  unfold clearedReport
  rcases tag with _ | (_ | _) <;> cases k <;> rfl

/-- What CLEAR_TRACK leaves of the bins, the banks and the flags after some pockets. -/
structure PocketsCleared (s : State) (ps : List PocketNo) (t : State) : Prop where
  bin : ∀ b, t.bin b = (s.bin b).released (pulseRunning s b) (ps.filter (isGradedFor s b)).length
  bank : ∀ k, t.bank k = (s.bank k).cleared (ps.filter (isTaggedWith s k)).length
  attention : t.svl.attention =
    { s.svl.attention with swapReady := t.svl.attention.swapReady, bankFree := t.svl.attention.bankFree }
  swapReady : SwapReadyKept s t
  bankFree : BankFreeKept s t

theorem PocketsCleared.nil (s : State) : PocketsCleared s [] s :=
  ⟨fun _ => (BinRec.released_zero ..).symm, fun _ => (Bank.cleared_zero _).symm, rfl,
    .of_still nofun (fun _ => rfl) rfl, .of_still nofun (fun _ => rfl) rfl⟩

section
variable {s : State} {p : PocketNo} {r : Part} (h : s.record p = some r)
include h

omit h in
theorem clearRelease_bin (s : State) (st : PartState) (b : SortBin) :
    (clearRelease s st).bin b = (s.bin b).released (pulseRunning s b) (if st = .graded (.bin b) then 1 else 0) := by
  unfold clearRelease
  split
  next c => rw [release_bin]; simp [eq_comm]
  next other => rw [if_neg (other b), BinRec.released_zero]

theorem clearPocket_bin (b : SortBin) :
    (clearPocket s p).bin b =
      (s.bin b).released (pulseRunning s b) (if r.state = .graded (.bin b) then 1 else 0) := by
  have bins : (clearPocket s p).bins = (clearRelease (clearedReport s r.tag) r.state).bins := by
    rw [clearPocket_of_some h, emptyPocket_bins]
  have bin : (clearPocket s p).bin b = (clearRelease (clearedReport s r.tag) r.state).bin b := by
    simp only [State.bin, bins]
  rw [bin, clearRelease_bin, clearedReport_frame]
  rfl

theorem clearPocket_bank (k : BankId) :
    (clearPocket s p).bank k = (s.bank k).cleared (if r.tag = some k then 1 else 0) := by
  have record : (clearRelease (clearedReport s r.tag) r.state).record p = some r := by
    rw [clearRelease_frame, clearedReport_frame]; exact h
  have bank : (clearRelease (clearedReport s r.tag) r.state).bank k = (clearedReport s r.tag).bank k :=
    State.bank_of_banks (by rw [clearRelease_frame]) (by rw [clearRelease_frame]) k
  rw [clearPocket_of_some h, emptyPocket_bank record, bank_departure, bank, clearedReport_bank]
  by_cases tagged : r.tag = some k
  · have last : (s.bank k).onRing ≤ 1 ↔ (s.bank k).onRing - 1 = 0 := by omega
    simp only [if_pos tagged, Bank.cleared, last, Nat.one_pos, true_and]
    rfl
  · simp only [if_neg tagged, Bank.cleared_zero]

/-- The flags of one pocket's clearing: the release's SWAP_READY and the departure's BANK_FREE. -/
theorem clearPocket_flags :
    ((clearPocket s p).svl.attention =
      { s.svl.attention with
        swapReady := (clearPocket s p).svl.attention.swapReady, bankFree := (clearPocket s p).svl.attention.bankFree }) ∧
      SwapReadyKept s (clearPocket s p) ∧ BankFreeKept s (clearPocket s p) := by
  have record : (clearRelease (clearedReport s r.tag) r.state).record p = some r := by
    rw [clearRelease_frame, clearedReport_frame]; exact h
  rw [clearPocket_of_some h]
  have reported : SwapReadyKept s (clearedReport s r.tag) ∧ BankFreeKept s (clearedReport s r.tag) := by
    refine ⟨.of_still nofun (fun b => by rw [clearedReport_frame]; rfl) (by rw [clearedReport_frame]),
      .of_still nofun (fun k => ?_) (by rw [clearedReport_frame])⟩
    rw [clearedReport_bank]
    split <;> rfl
  have reportedLink : (clearedReport s r.tag).svl = s.svl := by rw [clearedReport_frame]
  generalize clearedReport s r.tag = u at record reported reportedLink ⊢
  have released : SwapReadyKept u (clearRelease u r.state) ∧ BankFreeKept u (clearRelease u r.state) ∧
      (clearRelease u r.state).svl.attention =
        { u.svl.attention with swapReady := (clearRelease u r.state).svl.attention.swapReady } := by
    unfold clearRelease
    split
    next b _ =>
      refine ⟨release_swapReadyKept u b, .of_still nofun (fun k => ?_) ?_, (release_drains u b).attention⟩
      · exact congrArg Bank.state (State.bank_of_banks (by rw [release_frame]) (by rw [release_frame]) k)
      · rw [(release_drains u b).attention]
    next => exact ⟨.of_still nofun (fun _ => rfl) rfl, .of_still nofun (fun _ => rfl) rfl, rfl⟩
  generalize clearRelease u r.state = v at record released ⊢
  have link := emptyPocket_svl record
  have emptied : SwapReadyKept v (emptyPocket v p) ∧ BankFreeKept v (emptyPocket v p) := by
    refine ⟨.of_still nofun (fun b => ?_) ?_, ?_⟩
    · exact congrArg BinRec.state (by simp only [State.bin, emptyPocket_bins])
    · rw [link, departure_svl_frame]
    · have departed := departure_bankFreeKept v r
      simp only [BankFreeKept, emptyPocket_bank record, link]
      exact departed
  obtain ⟨swaps, frees⟩ := reported
  obtain ⟨swaps', frees', attention⟩ := released
  refine ⟨?_, (swaps.trans swaps').trans emptied.1, (frees.trans frees').trans emptied.2⟩
  rw [link, departure_svl_frame]
  dsimp only
  rw [attention, reportedLink]

theorem clearPocket_cleared_of_some : PocketsCleared s [p] (clearPocket s p) := by
  obtain ⟨attention, swaps, frees⟩ := clearPocket_flags h
  refine ⟨fun b => ?_, fun k => ?_, attention, swaps, frees⟩
  · have graded := isGradedFor_of_some h b
    rw [clearPocket_bin h]
    by_cases state : r.state = .graded (.bin b) <;> simp [state, graded]
  · rw [clearPocket_bank h]
    have tagged : isTaggedWith s k p = decide (r.tag = some k) := by rw [isTaggedWith, h, Option.any_some, beq_eq_decide]
    by_cases tag : r.tag = some k <;> simp [tag, tagged]

end

theorem clearPocket_cleared (s : State) (p : PocketNo) : PocketsCleared s [p] (clearPocket s p) := by
  rcases h : s.record p with _ | r
  · rw [clearPocket_of_none h]
    obtain ⟨-, -, attention, swaps, frees⟩ := PocketsCleared.nil s
    exact ⟨fun b => by simp [isGradedFor, h], fun k => by simp [isTaggedWith, h], attention, swaps, frees⟩
  · exact clearPocket_cleared_of_some h

/-! ## Several pockets, each once -/

theorem foldl_clearPocket_cleared {ps : List PocketNo} (once : ps.Nodup) (s : State) :
    PocketsCleared s ps (ps.foldl clearPocket s) := by
  induction ps generalizing s with
  | nil => exact .nil s
  | cons p ps ih =>
    obtain ⟨fresh, once⟩ := List.nodup_cons.mp once
    have record (q : PocketNo) (mem : q ∈ ps) : (clearPocket s p).record q = s.record q :=
      clearPocket_record_ne s fun same => fresh (same ▸ mem)
    have graded (b : SortBin) : ps.filter (isGradedFor (clearPocket s p) b) = ps.filter (isGradedFor s b) :=
      List.filter_congr fun q mem => by rw [isGradedFor, record q mem, isGradedFor]
    have tagged (k : BankId) : ps.filter (isTaggedWith (clearPocket s p) k) = ps.filter (isTaggedWith s k) :=
      List.filter_congr fun q mem => by rw [isTaggedWith, record q mem, isTaggedWith]
    have busy (b : SortBin) : pulseRunning (clearPocket s p) b = pulseRunning s b := by rw [clearPocket_frame]; rfl
    have whole (test : PocketNo → Bool) :
        ((p :: ps).filter test).length = ([p].filter test).length + (ps.filter test).length := by
      rw [← List.singleton_append, List.filter_append, List.length_append]
    obtain ⟨bin, bank, attention, swaps, frees⟩ := clearPocket_cleared s p
    obtain ⟨bin', bank', attention', swaps', frees'⟩ := ih once (clearPocket s p)
    rw [List.foldl_cons]
    refine ⟨fun b => ?_, fun k => ?_, ?_, swaps.trans swaps', frees.trans frees'⟩
    · rw [bin', bin, busy, graded, BinRec.released_released, whole]
    · rw [bank', bank, tagged, Bank.cleared_cleared, whole]
    · rw [attention', attention]

theorem clearPocket_complete_iff {s : State} {p : PocketNo} {r : Part} (h : s.record p = some r) :
    (clearPocket s p).trc.complete = true ↔
      s.trc.complete = true ∨ (s.ptk.opState = .tripped ∧ ∀ q, (clearPocket s p).record q = none) := by
  have record (q : PocketNo) : (clearRelease (clearedReport s r.tag) r.state).record q = s.record q := by
    rw [clearRelease_frame, clearedReport_frame]; rfl
  have all : (∀ q, (clearPocket s p).record q = none) ↔ ∀ q, q ≠ p → s.record q = none := by
    refine ⟨fun empty q ne => (clearPocket_record_ne s ne).symm.trans (empty q), fun empty q => ?_⟩
    by_cases same : q = p
    · rw [same]; exact clearPocket_record_self s p
    · rw [clearPocket_record_ne s same]; exact empty q same
  rw [all, clearPocket_of_some h, emptyPocket_complete_iff ((record p).trans h)]
  simp only [record]
  rw [clearRelease_frame, clearedReport_frame]

/-- Clearing pockets completes a trip's action exactly where it takes a part and leaves none in TRIPPED (R162). -/
theorem foldl_clearPocket_complete_iff (ps : List PocketNo) (s : State) :
    (ps.foldl clearPocket s).trc.complete = true ↔
      s.trc.complete = true ∨
        (s.ptk.opState = .tripped ∧ (∃ q, s.record q ≠ none) ∧ ∀ q, (ps.foldl clearPocket s).record q = none) := by
  induction ps generalizing s with
  | nil => exact ⟨.inl, fun h => h.elim id fun ⟨_, ⟨q, occupied⟩, empty⟩ => absurd (empty q) occupied⟩
  | cons p ps ih =>
    have track : (clearPocket s p).ptk.opState = s.ptk.opState := by rw [clearPocket_frame]
    rw [List.foldl_cons, ih, track]
    rcases h : s.record p with _ | r
    · rw [clearPocket_of_none h]
    rw [clearPocket_complete_iff h]
    have occupied : ∃ q, s.record q ≠ none := ⟨p, by rw [h]; exact nofun⟩
    have stays (empty : ∀ q, (clearPocket s p).record q = none) (q : PocketNo) :
        (ps.foldl clearPocket (clearPocket s p)).record q = none := by
      rw [foldl_clearPocket_record, empty q]
      split <;> rfl
    by_cases empty : ∀ q, (clearPocket s p).record q = none
    · have none_left : ¬∃ q, (clearPocket s p).record q ≠ none := fun ⟨q, some_left⟩ => some_left (empty q)
      rw [iff_true_intro empty, iff_true_intro (stays empty), iff_true_intro occupied, iff_false_intro none_left]
      simp only [and_true, and_false, or_false]
    · have some_left : ∃ q, (clearPocket s p).record q ≠ none := not_forall.mp empty
      simp only [empty, some_left, occupied, and_false, or_false, true_and]

/-! ## The whole ring -/

/-- Under the ring's law a test of records finds as many of the ring's pockets as of all pockets. -/
theorem RingOk.filter_ringPockets {s : State} (ring : RingOk s) {test : PocketNo → Bool}
    (needs : ∀ q, test q = true → s.record q ≠ none) : (ringPockets s).filter test = allPockets.filter test := by
  obtain ⟨-, -, outside⟩ := ring
  rw [ringPockets, List.filter_filter]
  refine List.filter_congr fun q _ => ?_
  cases found : test q with
  | false => rfl
  | true =>
    have inside : q.val < s.ptk.ring.pockets := Nat.not_le.mp fun out => needs q found (outside q out)
    rw [decide_eq_true inside]; rfl

theorem record_ne_none_of_any {s : State} {q : PocketNo} {test : Part → Bool} (found : (s.record q).any test = true) :
    s.record q ≠ none := by
  intro empty
  rw [empty] at found
  cases found

theorem exec_clearTrack_of_takes {s : State} (taken : takesRequest s = true) :
    exec (.clearTrack (bodyOf [])) s = .next ((ownClearTrack [] s).1.answer 0x13 (ownClearTrack [] s).2) :=
  congrArg Host.Outcome.next (request_bodyOf taken rfl (by decide : 0 < 256))

/-- Settles O15. -/
theorem clearTrackEmptiesTheRing : Obligations.ClearTrackEmptiesTheRing := by
  unfold Obligations.ClearTrackEmptiesTheRing
  intro s taken
  refine ⟨fun run => ?_, fun notRun ring => ⟨clearTrack s, ?_⟩⟩
  · rw [exec_clearTrack_of_takes taken, ownClearTrack, if_pos run]
    rfl
  have graded (b : SortBin) : (ringPockets s).filter (isGradedFor s b) = gradedFor s b :=
    ring.filter_ringPockets fun _ found => record_ne_none_of_any found
  have tagged (k : BankId) : (ringPockets s).filter (isTaggedWith s k) = taggedWith s k :=
    ring.filter_ringPockets fun _ found => record_ne_none_of_any found
  have occupied : ringOccupied s = occupiedCount s :=
    congrArg List.length (ring.filter_ringPockets fun q found => Option.isSome_iff_ne_none.mp found)
  have empty (q : PocketNo) : (clearTrack s).record q = none := by
    rw [clearTrack_record]
    split
    · rfl
    next out => exact ring.2.2 q (Nat.not_lt.mp out)
  have records : (clearTrack s).ptk.records = Vector.replicate 32 none :=
    Vector.ext fun i lt => (empty ⟨i, lt⟩).trans (by simp)
  have frame := clearTrack_frame s
  obtain ⟨bin, bank, attention, ⟨-, swapReady⟩, ⟨-, bankFree⟩⟩ := foldl_clearPocket_cleared (ringPockets_nodup s) s
  have complete := foldl_clearPocket_complete_iff (ringPockets s) s
  rw [exec_clearTrack_of_takes taken, ownClearTrack, if_neg notRun, occupied]
  refine ⟨rfl, ?_, by rw [frame], by rw [frame], by rw [frame], ?_, attention, fun id => ?_, fun b => ?_, fun k => ?_,
    swapReady, bankFree, ?_, complete.trans ?_⟩
  · rw [← records, frame]
  · rw [frame]
  · rw [frame]; cases id <;> rfl
  · have same : (clearTrack s).bin b = _ := bin b
    rw [same, graded]
    exact ⟨rfl, rfl, rfl, rfl, rfl, rfl⟩
  · have same : (clearTrack s).bank k = ((ringPockets s).foldl clearPocket s).bank k := by cases k <;> rfl
    rw [same, bank, tagged]
    exact ⟨rfl, rfl, rfl, rfl, rfl, rfl⟩
  · rw [frame]
  · have some_part : (∃ q, s.record q ≠ none) ↔ 0 < occupiedCount s := by
      rw [Nat.pos_iff_ne_zero, Ne, occupiedCount_eq_zero_iff, not_forall]
    have none_left : ∀ q, ((ringPockets s).foldl clearPocket s).record q = none := empty
    rw [some_part, iff_true_intro none_left, and_true]

end Sys2Proof.Machine
end

section
/-! PROOF. The requests of the trip controller (R162, R164, R165, R167, R168), and the bits of a byte made of flags
(Table 10.8). -/

namespace Sys2Proof.Machine

/-! ## Flags as the bits of a byte -/

theorem testBit_foldr (bs : List Bool) (j : Nat) :
    (bs.foldr (fun (b : Bool) acc => (if b then 1 else 0) + 2 * acc) 0).testBit j = bs.getD j false := by
  induction bs generalizing j with
  | nil => simp
  | cons b bs ih =>
    rw [List.foldr_cons]
    generalize bs.foldr (fun (b : Bool) acc => (if b then 1 else 0) + 2 * acc) 0 = n at ih ⊢
    cases j with
    | zero => cases b <;> simp [Nat.testBit_zero, Nat.add_mod]
    | succ j =>
      have half : ((if b = true then 1 else 0) + 2 * n) / 2 = n := by
        cases b
        · simp
        · rw [if_pos rfl]; omega
      rw [Nat.testBit_succ, half, ih, List.getD_cons_succ]

theorem foldr_lt (bs : List Bool) : bs.foldr (fun (b : Bool) acc => (if b then 1 else 0) + 2 * acc) 0 < 2 ^ bs.length := by
  induction bs with
  | nil => simp
  | cons b bs ih =>
    rw [List.foldr_cons, List.length_cons, Nat.pow_succ]
    cases b <;> simp only [Bool.false_eq_true, if_false, if_true] <;> omega

/-- Bit `j` of a byte made of flags is flag `j`. -/
theorem getLsbD_bitsByte (bs : List Bool) {j : Nat} (lt : j < 8) : (bitsByte bs).getLsbD j = bs.getD j false := by
  rw [bitsByte, byte, BitVec.getLsbD_ofNat, decide_eq_true lt, Bool.true_and, testBit_foldr]

theorem bitsByte_toNat_lt (bs : List Bool) : (bitsByte bs).toNat < 2 ^ bs.length := by
  rw [bitsByte, byte, BitVec.toNat_ofNat]
  exact (Nat.mod_le _ _).trans_lt (foldr_lt bs)

theorem map_getLsbD_bitsByte (bs : List Bool) :
    (List.range 8).map (bitsByte bs).getLsbD = (List.range 8).map fun j => bs.getD j false :=
  List.map_congr_left fun _ mem => getLsbD_bitsByte bs (List.mem_range.mp mem)

/-! ## The payload of READ_TRIP -/

theorem flagByte_beq {α : Type} [DecidableEq α] (x y : α) : flagByte (x == y) = if x = y then 1 else 0 := by
  rw [beq_eq_decide, flagByte]
  simp only [decide_eq_true_eq]

theorem snapshotBytes_length (n : Snapshot) : (snapshotBytes n).length = 20 := by
  simp [snapshotBytes, sampleBytes, bytesOf_length, signedBytesOf_length]

theorem tripRecordBytes_length (r : TripRecord) : (tripRecordBytes r).length = 21 := by
  cases r with
  | empty => rfl
  | captured n => rw [tripRecordBytes, List.length_cons, snapshotBytes_length]
  | read n => rw [tripRecordBytes, List.length_cons, snapshotBytes_length]

theorem tripPayload_length (s : State) : (tripPayload s).length = 29 := by
  simp [tripPayload, tripConfigBytes, tripRecordBytes_length, bytesOf_length]

/-! ## The requests -/

section
variable {s : State} (taken : takesRequest s = true)
include taken

theorem exec_setTrip_of_takes {p : List Byte} (length : p.length = 3) :
    exec (.setTrip (bodyOf p)) s = .next ((ownSetTrip p s).1.answer 0x60 (ownSetTrip p s).2) :=
  congrArg Host.Outcome.next (request_bodyOf taken (by rw [length]; rfl) (by rw [length]; decide))

theorem exec_trip_of_takes :
    exec (.trip (bodyOf [])) s = .next (settleTimers s ((ownTrip [] s).1.answer 0x61 (ownTrip [] s).2)) :=
  congrArg (fun t => Host.Outcome.next (settleTimers s t)) (request_bodyOf taken rfl (by decide : 0 < 256))

theorem exec_readTrip_of_takes :
    exec (.readTrip (bodyOf [])) s = .next ((ownReadTrip [] s).1.answer 0x62 (ownReadTrip [] s).2) :=
  congrArg Host.Outcome.next (request_bodyOf taken rfl (by decide : 0 < 256))

theorem exec_clearTrip_of_takes :
    exec (.clearTrip (bodyOf [])) s = .next ((ownClearTrip [] s).1.answer 0x63 (ownClearTrip [] s).2) :=
  congrArg Host.Outcome.next (request_bodyOf taken rfl (by decide : 0 < 256))

end

/-- SET_TRIP takes exactly the three codes of a configuration (R168, Table 10.8). -/
theorem tripConfigOf_eq_none {a h m : Byte} (out : 2 < a.toNat ∨ 1 < h.toNat ∨ 1 < m.toNat) : tripConfigOf a h m = none := by
  refine Option.eq_none_iff_forall_ne_some.mpr fun c read => ?_
  have bytes := (tripConfigOf_eq_some_iff a h m c).mp read
  simp only [tripConfigBytes, List.cons.injEq, and_true] at bytes
  obtain ⟨rfl, rfl, rfl⟩ := bytes
  have action : c.action.code.toNat ≤ 2 := by cases c.action <;> decide
  have flag (b : Bool) : (flagByte b).toNat ≤ 1 := by cases b <;> decide
  have halt := flag c.halt
  have meter := flag c.onMeterFault
  omega

/-- The meters of the causes are back in service (Table 9.6). -/
def MetersOnline (s : State) : Prop :=
  (s.trc.causes.meterA = true → s.portA.state = .online) ∧ (s.trc.causes.meterB = true → s.portB.state = .online)

theorem meters_unmet_iff (s : State) :
    ((s.trc.causes.meterA && s.portA.state != .online) || (s.trc.causes.meterB && s.portB.state != .online)) = true ↔
      ¬MetersOnline s := by
  rw [MetersOnline, not_and_or, Classical.not_imp, Classical.not_imp, Bool.or_eq_true, Bool.and_eq_true, Bool.and_eq_true,
    bne_iff_ne, bne_iff_ne]

/-- No condition is unmet exactly where the four are met (R165). -/
theorem conditionsUnmet_any_iff (s : State) :
    (conditionsUnmet s).any id = false ↔
      s.trc.complete = true ∧ s.ttp.safeActive = false ∧ s.drm.latch = false ∧ MetersOnline s := by
  have meters : ((s.trc.causes.meterA && s.portA.state != .online) ||
      (s.trc.causes.meterB && s.portB.state != .online)) = false ↔ MetersOnline s := by
    rw [← Bool.not_eq_true, meters_unmet_iff, not_not]
  rw [← meters]
  simp only [conditionsUnmet, List.any_cons, List.any_nil, id, Bool.or_eq_false_iff, and_true, Bool.not_eq_false']

theorem completionTest_of_empty {s : State} (tripped : s.ptk.opState = .tripped) (empty : ∀ p, s.record p = none) :
    completionTest s = { s with trc := { s.trc with complete := true } } := by
  have complete := (completionTest_complete_iff s).mpr (.inr ⟨tripped, empty⟩)
  rw [completionTest_frame, complete]

theorem completionTest_of_not {s : State}
    (h : s.ptk.opState ≠ .tripped ∨ s.trc.complete = true ∨ ∃ p, s.record p ≠ none) : completionTest s = s := by
  refine if_neg fun ⟨tripped, incomplete, empty⟩ => ?_
  rcases h with other | complete | ⟨p, occupied⟩
  · exact other tripped
  · rw [complete] at incomplete; cases incomplete
  · exact occupied ((occupiedCount_eq_zero_iff s).mp empty p)

theorem exec_actionComplete {s : State} (running : s.ttp.held = false) :
    exec .actionComplete s = .next (completionTest s) :=
  congrArg Host.Outcome.next (whileRunning_of_running running _)

/-- Settles O46. -/
theorem tripRequestsSetAndClear : Obligations.TripRequestsSetAndClear := by
  unfold Obligations.TripRequestsSetAndClear
  refine ⟨⟨rfl, fun c => ⟨map_getLsbD_bitsByte _, rfl, fun x y => ?adds⟩⟩, fun s => ?payload, fun s taken => ?requests,
    fun s running => ?complete⟩
  case adds => rw [CauseSet.has_add]; simp
  case payload =>
    dsimp only
    rw [tripPayload, flagByte_beq]
    rcases s.trc.record with _ | n | n <;> rfl
  case complete =>
    rw [exec_actionComplete running]
    exact ⟨fun tripped empty => congrArg Host.Outcome.next (completionTest_of_empty tripped empty),
      fun h => congrArg Host.Outcome.next (completionTest_of_not h)⟩
  case requests =>
    refine ⟨fun a h m => ?set, fun c running => ?config, fun t tripped => ?trip, ?marked,
      fun other => ?other, fun tripped => ?clear⟩
    case set =>
      rw [exec_setTrip_of_takes taken rfl, ownSetTrip]
      refine ⟨fun tripped => by rw [if_pos tripped], fun running out => ?_⟩
      rw [if_neg running, tripConfigOf_eq_none out]
    case config =>
      have read := (tripConfigOf_eq_some_iff _ _ _ c).mpr rfl
      rw [exec_setTrip_of_takes taken rfl, tripConfigBytes, ownSetTrip, if_neg running, read]
      rfl
    case trip =>
      subst tripped
      exact exec_trip_of_takes taken
    case marked =>
      refine ⟨tripPayload_length s, ?_⟩
      exact exec_readTrip_of_takes taken
    case other => rw [exec_clearTrip_of_takes taken, ownClearTrip, if_pos other]; rfl
    case clear =>
      rw [exec_clearTrip_of_takes taken, ownClearTrip, if_neg (not_not.mpr tripped)]
      refine ⟨fun met => ?_, fun unmet => ⟨bitsByte (conditionsUnmet s), ?_⟩⟩
      · rw [if_neg (Bool.eq_false_iff.mp ((conditionsUnmet_any_iff s).mpr met))]
        rfl
      · have some_unmet : (conditionsUnmet s).any id = true :=
          Bool.of_not_eq_false (mt (conditionsUnmet_any_iff s).mp unmet)
        have bit {j : Nat} (lt : j < 8) := getLsbD_bitsByte (conditionsUnmet s) lt
        rw [if_pos some_unmet, bit (j := 0) (by decide), bit (j := 1) (by decide), bit (j := 2) (by decide),
          bit (j := 3) (by decide)]
        refine ⟨rfl, ?_, .rfl, .rfl, meters_unmet_iff s, bitsByte_toNat_lt (conditionsUnmet s)⟩
        exact Bool.not_eq_true' _ ▸ .rfl

end Sys2Proof.Machine
end

section
/-! PROOF. VERDICT (R180, R181): the checks in order, the ruling on a HELD pocket, and the five bytes of the answer. -/

namespace Sys2Proof.Machine

/-! ## The operands -/

theorem pocketOf_of_inside {s : State} {p : PocketNo} (inside : p.val < s.ptk.ring.pockets) : pocketOf s (byte p.val) = some p := by
  have number : (byte p.val).toNat = p.val := byte_toNat (by omega)
  have fits : (byte p.val).toNat < 32 := by rw [number]; exact p.isLt
  have below : (byte p.val).toNat < s.ptk.ring.pockets := by rw [number]; exact inside
  rw [pocketOf, dif_pos fits, if_pos below]
  exact congrArg some (Fin.ext number)

theorem pocketOf_of_outside {s : State} {n : Byte} (outside : s.ptk.ring.pockets ≤ n.toNat) : pocketOf s n = none := by
  unfold pocketOf
  split
  · rw [if_neg (Nat.not_lt.mpr outside)]
  · rfl

theorem verdictKindOf_of_above {k : Byte} (above : 1 < k.toNat) : verdictKindOf k = none := by
  rw [verdictKindOf, if_neg (by rintro rfl; exact absurd above (by decide)),
    if_neg (by rintro rfl; exact absurd above (by decide))]

theorem exists_verdictKindOf {k : Byte} (code : k.toNat ≤ 1) : ∃ kind, verdictKindOf k = some kind := by
  have codes : k = 0 ∨ k = 1 := by bv_omega
  rcases codes with rfl | rfl
  · exact ⟨.bin, rfl⟩
  · exact ⟨.retest, rfl⟩

theorem exists_destOf {x : Byte} (number : x.toNat ≤ 15) : ∃ dest, destOf x = some dest := by
  unfold destOf
  split
  · exact ⟨_, rfl⟩
  next nonzero =>
    have range : 1 ≤ x.toNat ∧ x.toNat ≤ 15 := by bv_omega
    exact ⟨_, by rw [sortBinOf, dif_pos range]; rfl⟩

/-! ## The answer -/

section
variable {s : State} (taken : takesRequest s = true)
include taken

theorem exec_verdict_of_takes (n k x : Byte) :
    exec (.verdict (bodyOf [n, k, x])) s = .next ((ownVerdict [n, k, x] s).1.answer 0x04 (ownVerdict [n, k, x] s).2) :=
  congrArg Host.Outcome.next (request_bodyOf taken rfl (by decide : 3 < 256))

theorem exec_verdict_of_bad {n k x : Byte} (bad : s.ptk.ring.pockets ≤ n.toNat ∨ 1 < k.toNat ∨ 15 < x.toNat) :
    exec (.verdict (bodyOf [n, k, x])) s = .next (s.answer 0x04 ⟨.badValue, []⟩) := by
  have refused : ownVerdict [n, k, x] s = refuse s .badValue := by
    simp only [ownVerdict]
    split
    next q kind dest pocket verdict bin =>
      rcases bad with outside | above | above
      · rw [pocketOf_of_outside outside] at pocket; cases pocket
      · rw [verdictKindOf_of_above above] at verdict; cases verdict
      · rw [destOf_eq_none above] at bin; cases bin
    next => rfl
  rw [exec_verdict_of_takes taken, refused]
  rfl

theorem exec_verdict_of_judge {p : PocketNo} (inside : p.val < s.ptk.ring.pockets) {k x : Byte} {kind : VerdictKind}
    {dest : Dest} (code : verdictKindOf k = some kind) (number : destOf x = some dest) {t : State} {status : Status}
    (out : judge s p kind dest = (t, status)) :
    exec (.verdict (bodyOf [byte p.val, k, x])) s = .next (t.answer 0x04 ⟨status, verdictPayload t p⟩) := by
  have owner : ownVerdict [byte p.val, k, x] s = (t, ⟨status, verdictPayload t p⟩) := by
    simp only [ownVerdict, pocketOf_of_inside inside, code, number, out]
  rw [exec_verdict_of_takes taken, owner]

end

/-- The five bytes on a state whose ring stands as in `s` (Table 10.11). -/
theorem verdictPayload_eq {s u : State} (ring : u.ptk.ring = s.ptk.ring) (pointer : u.ptk.loadPointer = s.ptk.loadPointer)
    (p : PocketNo) :
    verdictPayload u p =
      [byte p.val, byte ((s.ptk.loadPointer + s.ptk.ring.pockets - p.val) % s.ptk.ring.pockets),
        match u.record p with
        | none => 0
        | some r => r.state.code,
        match (u.record p).map Part.state with
        | some (.graded .sweep) => 0
        | some (.graded (.bin b)) => byte (b.val + 1)
        | _ => 0xFF,
        byte u.svl.hold.length] := by
  rw [verdictPayload, offsetOf, ring, pointer]
  rcases u.record p with _ | r
  · rfl
  · rcases state : r.state with _ | (_ | b) | _ | _ | _ | _ <;> simp only [Option.map_some, state] <;> rfl

/-! ## The ruling -/

section
variable {s : State} {p : PocketNo}

theorem judge_of_not_held (other : ∀ r, s.record p = some r → r.state ≠ .held) (kind : VerdictKind) (dest : Dest) :
    judge s p kind dest = (s, .notHeld) := by
  rcases h : s.record p with _ | r
  · simp only [judge, h]
  · simp only [judge, h, if_neg (other r h)]

variable {r : Part} (h : s.record p = some r) (held : r.state = .held)
include h held

theorem judge_of_held (kind : VerdictKind) (dest : Dest) : judge s p kind dest = rule s p r kind dest := by
  simp only [judge, h, if_pos held]

theorem judge_sweep :
    judge s p .bin .sweep = (dropHold (s.setRecord p (some { r with state := .graded .sweep })) p, .ok) := by
  rw [judge_of_held h held, rule, modPart_of_some h]

theorem judge_late {b : SortBin} (late : s.ptk.ring.gates[b] ≤ offsetOf s p) : judge s p .bin (.bin b) = (s, .tooLate) := by
  rw [judge_of_held h held, rule, if_pos late]

theorem judge_unavailable {b : SortBin} (early : offsetOf s p < s.ptk.ring.gates[b])
    (refused : (s.bin b).grants (verdictOverride s r) = false) : judge s p .bin (.bin b) = (s, .unavailable) := by
  rw [judge_of_held h held, rule, if_neg (Nat.not_le.mpr early), reserve_eq_none.mpr refused]

theorem judge_granted {b : SortBin} (early : offsetOf s p < s.ptk.ring.gates[b])
    (granted : (s.bin b).grants (verdictOverride s r) = true) :
    judge s p .bin (.bin b) =
      (dropHold ((grant s b).setRecord p (some { r with state := .graded (.bin b) })) p, .ok) := by
  have kept : (grant s b).record p = some r := by rw [grant_frame]; exact h
  rw [judge_of_held h held, rule, if_neg (Nat.not_le.mpr early), reserve_eq_some.mpr ⟨granted, rfl⟩]
  exact congrArg (fun t => (dropHold t p, Status.ok)) (modPart_of_some kept _)

variable {k : BankId} (tag : r.tag = some k)
include tag

theorem judge_retest (below : r.retests < (s.bank k).lot.retestLimit) (dest : Dest) :
    judge s p .retest dest =
      (dropHold (s.setRecord p (some { r with retests := r.retests + 1, state := .retest })) p, .ok) := by
  have limit : retestLimitOf s r = (s.bank k).lot.retestLimit := by simp only [retestLimitOf, tag]
  rw [judge_of_held h held, rule, if_pos (by rw [limit]; exact below), modPart_of_some h]

theorem judge_retest_spent (spent : (s.bank k).lot.retestLimit ≤ r.retests) (dest : Dest) :
    judge s p .retest dest = (s, .unavailable) := by
  have limit : retestLimitOf s r = (s.bank k).lot.retestLimit := by simp only [retestLimitOf, tag]
  rw [judge_of_held h held, rule, if_neg (by rw [limit]; exact Nat.not_lt.mpr spent)]

end

/-- Settles O49. -/
theorem verdictsRuleOnHeldPockets : Obligations.VerdictsRuleOnHeldPockets := by
  unfold Obligations.VerdictsRuleOnHeldPockets
  intro s taken
  refine ⟨fun n k x bad => exec_verdict_of_bad taken bad, fun p inside => ?_⟩
  have refused {k x : Byte} {kind : VerdictKind} {dest : Dest} {status : Status} (code : verdictKindOf k = some kind)
      (number : destOf x = some dest) (out : judge s p kind dest = (s, status)) :=
    (exec_verdict_of_judge taken inside code number out).trans
      (congrArg (fun bytes => Host.Outcome.next (s.answer 0x04 ⟨status, bytes⟩)) (verdictPayload_eq (s := s) rfl rfl p))
  have accepted {k x : Byte} {kind : VerdictKind} {dest : Dest} {t : State} (code : verdictKindOf k = some kind)
      (number : destOf x = some dest) (out : judge s p kind dest = (dropHold t p, .ok))
      (ring : t.ptk.ring = s.ptk.ring) (pointer : t.ptk.loadPointer = s.ptk.loadPointer) :=
    (exec_verdict_of_judge taken inside code number out).trans
      (congrArg (fun bytes => Host.Outcome.next ((dropHold t p).answer 0x04 ⟨.ok, bytes⟩))
        (verdictPayload_eq (s := s) (u := dropHold t p) ring pointer p))
  refine ⟨fun other k x code number => ?_, fun r h held => ⟨?_, fun b => ⟨fun late => ?_, fun early k cls tag grade => ?_⟩,
    fun x number k tag => ⟨fun below => ?_, fun spent => ?_⟩⟩⟩
  · obtain ⟨kind, code⟩ := exists_verdictKindOf code
    obtain ⟨dest, number⟩ := exists_destOf number
    exact refused code number (judge_of_not_held other kind dest)
  · exact accepted rfl rfl (judge_sweep h held) rfl rfl
  · exact refused rfl (destOf_number (.bin b)) (judge_late h held late)
  · have override : verdictOverride s r = ((s.bank k).actions[cls.code]).override := by
      simp only [verdictOverride, tag, grade]
      rfl
    rw [← override]
    refine ⟨fun unavailable => ?_, fun granted => ?_⟩
    · exact refused rfl (destOf_number (.bin b)) (judge_unavailable h held early unavailable)
    · exact accepted rfl (destOf_number (.bin b)) (judge_granted h held early granted) (by rw [grant_frame]; rfl)
        (by rw [grant_frame]; rfl)
  · obtain ⟨dest, number⟩ := exists_destOf number
    exact accepted rfl number (judge_retest h held tag below dest) rfl rfl
  · obtain ⟨dest, number⟩ := exists_destOf number
    exact refused rfl number (judge_retest_spent h held tag spent dest)

end Sys2Proof.Machine
end

section
/-! PROOF. The meter frames (R183 to R185): the levels of a byte on the line, the CRC bit by bit, and the fields of TRIGGER and
RESULT frames as bytes. -/

namespace Sys2Proof.Machine

/-! ## Fields and bytes -/

theorem intOf_signedBytesOf {n : Nat} {x : Int} (low : -((256 ^ n : Nat) : Int) ≤ 2 * x) (high : 2 * x < ((256 ^ n : Nat) : Int)) :
    intOf (signedBytesOf n x) = x :=
  (eq_signedBytesOf_iff (signedBytesOf_length n x) low high).mp rfl

/-- One byte in two's complement (R183). -/
theorem intOf_byte (b : Byte) : intOf [b] = b.toInt := by
  rw [BitVec.toInt]
  simp [intOf, natOf]

/-- A 16-bit register as two bytes, most significant first. -/
theorem append_bytes (c : BitVec 16) : (BitVec.ofNat 8 (c.toNat / 256 ^ 1) ++ BitVec.ofNat 8 (c.toNat / 256 ^ 0) : BitVec 16) = c := by
  apply BitVec.eq_of_toNat_eq
  have fits := c.isLt
  rw [BitVec.toNat_append, ← Nat.shiftLeft_add_eq_or_of_lt (BitVec.isLt _), Nat.shiftLeft_eq, BitVec.toNat_ofNat,
    BitVec.toNat_ofNat]
  omega

/-! ## The line and the CRC -/

theorem charLevels_length (b : Byte) (stop : Bool) : (charLevels b stop).length = 10 := rfl

theorem TriggerFrame.bytes_length (f : TriggerFrame) : f.bytes.length = 7 := rfl

theorem TriggerFrame.levels_length (f : TriggerFrame) : f.levels.length = 70 := by
  have each (bs : List Byte) : (bs.flatMap fun b => charLevels b true).length = 10 * bs.length := by
    induction bs with
    | nil => rfl
    | cons b bs ih => rw [List.flatMap_cons, List.length_append, ih, charLevels_length, List.length_cons]; omega
  rw [TriggerFrame.levels, each, f.bytes_length]

theorem bitsOf_eq_map (b : Byte) : bitsOf b = (List.range 8).map b.getMsbD := by
  revert b; decide

/-- A byte enters the CRC register bit by bit, most significant first (R185). -/
theorem crc16_append (bs : List Byte) (b : Byte) :
    crc16 (bs ++ [b]) =
      (List.range 8).foldl
        (fun (reg : BitVec 16) j => if reg.msb = b.getMsbD j then reg <<< 1 else (reg <<< 1) ^^^ 0x1021#16) (crc16 bs) := by
  rw [crc16, List.foldl_append, List.foldl_cons, List.foldl_nil, crcByte, bitsOf_eq_map, List.foldl_map]
  simp only [crcBit, beq_iff_eq]
  rfl

/-- A frame that ends with the CRC of its ten middle bytes has a good CRC (R49). -/
theorem crcGood_of_body (start : Byte) {body : List Byte} (length : body.length = 10) :
    crcGood (start :: body ++ bytesOf 2 (crc16 body).toNat) = true := by
  have middle : ((start :: body ++ bytesOf 2 (crc16 body).toNat).drop 1).take 10 = body := by
    rw [List.cons_append, List.drop_succ_cons, List.drop_zero, ← length, List.take_left]
  have last : (start :: body ++ bytesOf 2 (crc16 body).toNat).drop 11 = bytesOf 2 (crc16 body).toNat := by
    rw [List.cons_append, List.drop_succ_cons, ← length, List.drop_left]
  rw [crcGood_iff, middle, last]

/-- Settles O50. -/
theorem meterFramesAreBuiltAndRead : Obligations.MeterFramesAreBuiltAndRead := by
  unfold Obligations.MeterFramesAreBuiltAndRead
  refine ⟨fun b stop => ⟨rfl, byteOfLevels_charLevels b stop⟩, fun m i => ⟨fun idle => ?idle, fun f sending => ?sending⟩,
    ⟨rfl, crc16_append⟩, by decide +kernel, fun f low high => ?trigger, fun f mantissa eLow eHigh tLow tHigh => ?result⟩
  case idle => simp only [MeterPort.txLevel, idle]
  case sending =>
    refine ⟨?_, f.levels_length⟩
    simp only [MeterPort.txLevel, sending]
    rfl
  case trigger =>
    have exponent : intOf (signedBytesOf 1 f.exponent) = f.exponent := intOf_signedBytesOf (by omega) (by omega)
    exact ⟨_, _, _, rfl, (intOf_byte _).symm.trans exponent, append_bytes _⟩
  case result =>
    intro body frame
    have length : body.length = 10 := by simp [body]
    refine ⟨by simp [frame, length], crcGood_of_body 0xA5#8 length, ?_⟩
    have mantissa : natOf (bytesOf 3 f.mantissa) = f.mantissa := by
      rw [natOf_bytesOf, Nat.mod_eq_of_lt (by omega)]
    have exponent : intOf (signedBytesOf 1 f.exponent) = f.exponent := intOf_signedBytesOf (by omega) (by omega)
    have temperature : intOf (signedBytesOf 2 f.temperature) = f.temperature := intOf_signedBytesOf (by omega) (by omega)
    calc resultFrameOf _
      _ = some
          { kind := f.kind, seq := f.seq, pocket := f.pocket, status := f.status
            mantissa := natOf (bytesOf 3 f.mantissa), exponent := intOf (signedBytesOf 1 f.exponent)
            temperature := intOf (signedBytesOf 2 f.temperature) } := rfl
      _ = some f := by rw [mantissa, exponent, temperature]

end Sys2Proof.Machine
end

section
/-! PROOF. The reads (R25, R26, R61, R90, R106, R126, R152, R175, R177, R179): the payloads of Table 10.11 field by field and
their lengths, and the answers of the owners. -/

namespace Sys2Proof.Machine

/-! ## Fields of the payloads -/

theorem Attention.has_raise (a : Attention) (f g : Flag) : (a.raise f).has g = (decide (g = f) || a.has g) := by
  cases f <;> cases g <;> rfl

theorem PartKind.code_eq (k : PartKind) : k.code = if k = .reference then 1 else 0 := by
  cases k <;> rfl

/-- The presence and saturated bits of a deviation (Table 10.11). -/
theorem bitsByte_saturated (f : Bool) : bitsByte [true, f] = if f then 3 else 1 := by
  cases f <;> rfl

theorem resultBytes_length (x : Option StationResult) : (resultBytes x).length = 7 := by
  rcases x with _ | (⟨m, e, t⟩ | _ | _ | _ | _ | _ | _)
  case some.ok => simp [resultBytes]
  all_goals rfl

theorem deviationBytes_length (d : Option Deviation) : (deviationBytes d).length = 4 := by
  rcases d with _ | d
  · rfl
  · simp [deviationBytes]

theorem gradeBytes_length (g : Grade) : (gradeBytes g).length = 2 := by
  cases g <;> rfl

theorem recordBytes_length (x : Option Part) : (recordBytes x).length = 30 := by
  rcases x with _ | r
  · rfl
  · simp [recordBytes, resultBytes_length, deviationBytes_length, gradeBytes_length]

theorem slotBytes_length (x : Option Outstanding) : (slotBytes x).length = 4 := by
  rcases x with _ | e
  · rfl
  · simp [slotBytes]

theorem flatMap_bytesOf_length {α : Type} (n : Nat) (value : α → Nat) (xs : List α) :
    (xs.flatMap fun x => bytesOf n (value x)).length = n * xs.length := by
  induction xs with
  | nil => rfl
  | cons x xs ih =>
    rw [List.flatMap_cons, List.length_append, bytesOf_length, ih, List.length_cons, Nat.mul_succ, Nat.add_comm]

theorem ringBytes_length (r : Ring) : (ringBytes r).length = 22 := by
  simp [ringBytes]

/-! ## The payloads' lengths (Table 10.11) -/

theorem pocketPayload_length (s : State) (p : PocketNo) : (pocketPayload s p).length = 33 := by
  simp [pocketPayload, recordBytes_length]

theorem deviceCountsPayload_length (s : State) : (deviceCountsPayload s).length = 37 := by
  simp [deviceCountsPayload, ringBytes_length]

theorem meterPayload_length (s : State) (id : PortId) : (meterPayload s id).length = 43 := by
  simp [meterPayload, slotBytes_length]

theorem lotCountsPayload_length (k : Bank) : (lotCountsPayload k).length = 126 := by
  simp only [lotCountsPayload, List.length_append, List.length_cons, List.length_nil, bytesOf_length, flatMap_bytesOf_length,
    Vector.length_toList]

theorem binPayload_length (s : State) (b : SortBin) : (binPayload s b).length = 12 := by
  simp [binPayload]

theorem driftPayload_length (d : Drm) : (driftPayload d).length = 25 := by
  simp [driftPayload, driftConfigBytes_length, sampleBytes]

theorem holdPayload_length (s : State) : (holdPayload s).length = if s.svl.hold = [] then 1 else 38 := by
  rcases list : s.svl.hold with _ | ⟨e, rest⟩
  · simp [holdPayload, list]
  · simp [holdPayload, list, recordBytes_length]

/-! ## The requests -/

section
variable {s : State} (taken : takesRequest s = true)
include taken

theorem exec_readPocket_of_takes (n : Byte) :
    exec (.readPocket (bodyOf [n])) s = .next ((ownReadPocket [n] s).1.answer 0x14 (ownReadPocket [n] s).2) :=
  congrArg Host.Outcome.next (request_bodyOf taken rfl (by decide : 1 < 256))

theorem exec_readDeviceCounts_of_takes :
    exec (.readDeviceCounts (bodyOf [])) s = .next (s.answer 0x15 ⟨.ok, deviceCountsPayload s⟩) :=
  congrArg Host.Outcome.next (request_bodyOf (own := ownReadDeviceCounts) taken rfl (by decide : 0 < 256))

theorem exec_readMeter_of_takes (x : Byte) :
    exec (.readMeter (bodyOf [x])) s = .next ((ownReadMeter [x] s).1.answer 0x22 (ownReadMeter [x] s).2) :=
  congrArg Host.Outcome.next (request_bodyOf taken rfl (by decide : 1 < 256))

theorem exec_readBank_of_takes (x y z : Byte) :
    exec (.readBank (bodyOf [x, y, z])) s = .next ((ownReadBank [x, y, z] s).1.answer 0x35 (ownReadBank [x, y, z] s).2) :=
  congrArg Host.Outcome.next (request_bodyOf taken rfl (by decide : 3 < 256))

theorem exec_readLotCounts_of_takes (x : Byte) :
    exec (.readLotCounts (bodyOf [x])) s = .next ((ownReadLotCounts [x] s).1.answer 0x36 (ownReadLotCounts [x] s).2) :=
  congrArg Host.Outcome.next (request_bodyOf taken rfl (by decide : 1 < 256))

theorem exec_readBin_of_takes (n : Byte) :
    exec (.readBin (bodyOf [n])) s = .next ((ownReadBin [n] s).1.answer 0x41 (ownReadBin [n] s).2) :=
  congrArg Host.Outcome.next (request_bodyOf taken rfl (by decide : 1 < 256))

theorem exec_readDrift_of_takes : exec (.readDrift (bodyOf [])) s = .next (s.answer 0x51 ⟨.ok, driftPayload s.drm⟩) :=
  congrArg Host.Outcome.next (request_bodyOf (own := ownReadDrift) taken rfl (by decide : 0 < 256))

theorem exec_readHold_of_takes : exec (.readHold (bodyOf [])) s = .next (s.answer 0x03 ⟨.ok, holdPayload s⟩) :=
  congrArg Host.Outcome.next (request_bodyOf (own := ownReadHold) taken rfl (by decide : 0 < 256))

theorem exec_identify_of_takes : exec (.identify (bodyOf [])) s = .next (s.answer 0x01 ⟨.ok, identifyPayload s⟩) :=
  congrArg Host.Outcome.next (request_bodyOf (own := ownIdentify) taken rfl (by decide : 0 < 256))

theorem exec_readAttention_of_takes :
    exec (.readAttention (bodyOf [])) s = .next
      ({ s with svl := { s.svl with attention := .none } }.answer 0x02 ⟨.ok, [s.svl.attention.byte]⟩) :=
  congrArg Host.Outcome.next (request_bodyOf (own := ownReadAttention) taken rfl (by decide : 0 < 256))

/-- READ_BANK answers the part that its codes name (R90). -/
theorem exec_readBank_of_part (k : BankId) (e : Fin 16) {y : Byte} {part : BankPart} (code : bankPartOf y = some part) :
    exec (.readBank (bodyOf [tagCode (some k), y, byte e.val])) s = .next
      (s.answer 0x35 ⟨.ok, bankPayload (s.bank k) part e⟩) := by
  have number : entryNoOf (byte e.val) = some e := entryNoOf_of_toNat (byte_toNat (by omega))
  rw [exec_readBank_of_takes taken]
  simp only [ownReadBank, bankOf_tagCode, code, number]
  rfl

theorem exec_readBank_of_bad {x y z : Byte} (bad : (x ≠ 1 ∧ x ≠ 2) ∨ 2 < y.toNat ∨ 15 < z.toNat) :
    exec (.readBank (bodyOf [x, y, z])) s = .next (s.answer 0x35 ⟨.badValue, []⟩) := by
  have refused : ownReadBank [x, y, z] s = refuse s .badValue := by
    simp only [ownReadBank]
    split
    next k part e bank code number =>
      rcases bad with ⟨notA, notB⟩ | above | above
      · rw [bankOf_eq_none notA notB] at bank; cases bank
      · have none_named : bankPartOf y = none := by
          rw [bankPartOf, if_neg (by rintro rfl; exact absurd above (by decide)),
            if_neg (by rintro rfl; exact absurd above (by decide)), if_neg (by rintro rfl; exact absurd above (by decide))]
        rw [none_named] at code; cases code
      · rw [entryNoOf_eq_none above] at number; cases number
    next => rfl
  rw [exec_readBank_of_takes taken, refused]
  rfl

end

/-- Settles O16. -/
theorem readsReportTheState : Obligations.ReadsReportTheState := by
  unfold Obligations.ReadsReportTheState
  refine ⟨⟨rfl, rfl, rfl, rfl, fun d => rfl, rfl, rfl, fun a => ⟨map_getLsbD_bitsByte _, rfl, fun f g => ?raise⟩⟩, ?payloads,
    fun s taken => ?requests⟩
  case raise => rw [Attention.has_raise]; simp
  case payloads =>
    intro u8 flag sample result record slot s
    have results (x : Option StationResult) : resultBytes x = result x := by
      rcases x with _ | (⟨m, e, t⟩ | _ | _ | _ | _ | _ | _) <;> rfl
    have deviations (d : Option Deviation) : deviationBytes d = (match d with
        | none => [0, 0, 0, 0]
        | some d => (if d.saturated then 3 else 1) :: signedBytesOf 3 d.ppm) := by
      rcases d with _ | d
      · rfl
      · rw [deviationBytes, bitsByte_saturated]; rfl
    have dests (st : PartState) : destByte st = (match st with
        | .graded .sweep => 0
        | .graded (.bin b) => u8 (b.val + 1)
        | _ => 0xFF) := by
      rcases st with _ | (_ | b) | _ | _ | _ | _ <;> rfl
    have grades (g : Grade) : gradeBytes g = (match g with
        | .ungraded => [0xFF, 0xFF]
        | .byClass c => [u8 c.code.val, 0xFF]
        | .byEntry e => [0xFF, u8 e.val]) := by
      cases g <;> rfl
    have records (x : Option Part) : recordBytes x = record x := by
      rcases x with _ | r
      · rfl
      · rw [recordBytes, PartKind.code_eq, results, results, deviations, dests, grades]
        rfl
    have slots (x : Option Outstanding) : slotBytes x = slot x := by
      rcases x with _ | e <;> rfl
    refine ⟨fun p => ?_, ?_, fun id => ?_, fun k => rfl, fun b => rfl, rfl, ?_⟩
    · rw [pocketPayload, records]; rfl
    · simp only [deviceCountsPayload, ringBytes, List.append_assoc, List.cons_append, List.nil_append]
      rfl
    · dsimp only
      rw [meterPayload]
      simp only [slots, List.flatMap_cons, List.flatMap_nil, List.append_nil, List.append_assoc]
      cases id <;> rfl
    · rw [holdPayload]
      rcases s.svl.hold with _ | ⟨e, rest⟩
      · rfl
      · dsimp only
        rw [records]
        rfl
  case requests =>
    refine ⟨fun p inside => ⟨?_, pocketPayload_length s p⟩, ⟨exec_readDeviceCounts_of_takes taken, deviceCountsPayload_length s⟩,
      fun id => ⟨?_, meterPayload_length s id⟩,
      fun k e => ⟨exec_readBank_of_part (part := .lot) taken k e rfl, exec_readBank_of_part (part := .entry) taken k e rfl,
        exec_readBank_of_part (part := .classes) taken k e rfl⟩,
      fun k => ⟨?_, lotCountsPayload_length _⟩, fun b => ⟨?_, binPayload_length s b⟩,
      ⟨exec_readDrift_of_takes taken, driftPayload_length s.drm⟩, ⟨exec_readHold_of_takes taken, holdPayload_length s⟩,
      fun n outside => ?_, fun x notA notB => ⟨?_, ?_⟩, fun x y z bad => exec_readBank_of_bad taken bad, fun n bad => ?_, ?_,
      exec_readAttention_of_takes taken⟩
    · have named : ownReadPocket [byte p.val] s = (s, okWith (pocketPayload s p)) := by
        simp only [ownReadPocket, pocketOf_of_inside inside]
      exact (exec_readPocket_of_takes taken (byte p.val)).trans (by rw [named]; rfl)
    · rw [exec_readMeter_of_takes taken]
      simp only [ownReadMeter, portOf_portCode]
      rfl
    · rw [exec_readLotCounts_of_takes taken]
      simp only [ownReadLotCounts, bankOf_tagCode]
      rfl
    · have named : ownReadBin [byte (b.val + 1)] s = (s, okWith (binPayload s b)) := by
        simp only [ownReadBin, sortBinOf_number]
      exact (exec_readBin_of_takes taken (byte (b.val + 1))).trans (by rw [named]; rfl)
    · rw [exec_readPocket_of_takes taken]
      simp only [ownReadPocket, pocketOf_of_outside outside]
      rfl
    · rw [exec_readMeter_of_takes taken]
      simp only [ownReadMeter, portOf_eq_none notA notB]
      rfl
    · rw [exec_readLotCounts_of_takes taken]
      simp only [ownReadLotCounts, bankOf_eq_none notA notB]
      rfl
    · rw [exec_readBin_of_takes taken]
      simp only [ownReadBin, sortBinOf_eq_none bad]
      rfl
    · rw [exec_identify_of_takes taken, identifyPayload]
      cases s.ttp.restartCause <;> rfl

end Sys2Proof.Machine
end

section
/-! PROOF. Transactions (R170 to R173, R175): bits and bytes, what the link's events write, and what a rise serves. -/

namespace Sys2Proof.Machine

/-! ## Bits and bytes (R170) -/

theorem bitsOf_getElem? (b : Byte) {j : Nat} (lt : j < 8) : (bitsOf b)[j]? = some (b.getMsbD j) := by
  rw [bitsOf_eq_map, List.getElem?_map, List.getElem?_range lt]
  rfl

theorem bytesOfBits_of_short {bits : List Bool} (short : bits.length < 8) : bytesOfBits bits = [] := by
  unfold bytesOfBits
  split
  · simp only [List.length_cons] at short
    omega
  · rfl

/-- An incomplete byte is discarded. -/
theorem bytesOfBits_flatMap_append (bytes : List Byte) {extra : List Bool} (short : extra.length < 8) :
    bytesOfBits (bytes.flatMap bitsOf ++ extra) = bytes := by
  induction bytes with
  | nil => exact bytesOfBits_of_short short
  | cons b bytes ih => rw [List.flatMap_cons, List.append_assoc, bytesOfBits_bitsOf_append, ih]

/-! ## The level of SDO (R170, R172) -/

section
variable {s : State} (running : s.ttp.held = false)
include running

theorem sdoBit_of_ignoring (ignoring : s.svl.ignoring = true) (i : Nat) : sdoBit s i ≠ none := by
  rw [sdoBit, running, ignoring]
  exact nofun

variable (listening : s.svl.ignoring = false)
include listening

theorem sdoBit_of_idle (idle : s.svl.outgoing = none) (i : Nat) : sdoBit s i = none := by
  rw [sdoBit, running, listening, idle]
  rfl

theorem sdoByte_of_idle (idle : s.svl.outgoing = none) (i : Nat) : sdoByte s i = none := by
  rw [sdoByte, sdoBit_of_idle running listening idle]
  rfl

variable {out : Response} (outgoing : s.svl.outgoing = some out)
include outgoing

/-- A byte place of SDO carries the response's byte, most significant bit first, and 0x00 beyond its bytes. -/
theorem sdoBit_of_outgoing (i : Nat) {j : Nat} (lt : j < 8) :
    sdoBit s (8 * i + j) = some ((out.bytes[i]?.getD 0).getMsbD j) := by
  have place : (8 * i + j) / 8 = i := by omega
  have bit : (8 * i + j) % 8 = j := by omega
  rw [sdoBit, running, listening, outgoing]
  simp only [Bool.false_eq_true, if_false, Option.map_some, Response.bit, place, bit, bitsOf_getElem? _ lt,
    Option.getD_some]

theorem sdoByte_of_outgoing (i : Nat) : sdoByte s i = some (out.bytes[i]?.getD 0) := by
  have first := sdoBit_of_outgoing running listening outgoing i (j := 0) (by decide)
  have bits : ((List.range 8).map fun j => (sdoBit s (8 * i + j)).getD false) =
      (List.range 8).map (out.bytes[i]?.getD 0).getMsbD :=
    List.map_congr_left fun j mem => by
      rw [sdoBit_of_outgoing running listening outgoing i (List.mem_range.mp mem), Option.getD_some]
  rw [Nat.add_zero] at first
  rw [sdoByte, first, if_pos (Option.isSome_some), bits, ← bitsOf_eq_map, byteOfBits_bitsOf]

end

/-! ## The link's events -/

theorem State.answer_of_idle {s : State} (idle : s.svl.outgoing = none) (op : Byte) (r : Reply) :
    s.answer op r = { s with svl := { s.svl with pending := ⟨op, r.status, r.payload⟩ } } := by
  rw [State.answer, Svl.answer, if_neg (by rw [idle]; exact nofun)]

theorem State.answer_of_outgoing {s : State} (inside : s.svl.outgoing ≠ none) (op : Byte) (r : Reply) :
    s.answer op r = { s with svl := { s.svl with next := some ⟨op, r.status, r.payload⟩, taken := true } } := by
  rw [State.answer, Svl.answer, if_pos (Option.isSome_iff_ne_none.mpr inside)]

theorem takesRequest_iff (s : State) :
    takesRequest s = true ↔
      s.ttp.held = false ∧ s.svl.ignoring = false ∧ (s.svl.outgoing = none ∨ s.svl.taken = false) := by
  simp only [takesRequest, Bool.and_eq_true, Bool.not_eq_true', Bool.and_eq_false_iff, Option.isSome_eq_false_iff,
    Option.isNone_iff_eq_none, and_assoc]

section
variable {s : State}

theorem transactionStart_of_ignoring (ignoring : s.svl.ignoring = true) : transactionStart s = s := by
  simp [transactionStart, ignoring]

theorem transactionStart_of_outgoing (inside : s.svl.outgoing ≠ none) : transactionStart s = s := by
  simp [transactionStart, Option.isSome_iff_ne_none.mpr inside]

theorem transactionStart_of_idle (running : s.ttp.held = false) (listening : s.svl.ignoring = false)
    (idle : s.svl.outgoing = none) :
    transactionStart s =
      { s with svl := { s.svl with outgoing := some s.svl.pending, next := none, taken := false, collected := none } } := by
  simp [transactionStart, running, listening, idle]

theorem transactionEnd_of_ignoring (running : s.ttp.held = false) (ignoring : s.svl.ignoring = true) (bits : List Bool)
    (n : Nat) : transactionEnd bits n s = { s with svl := { s.svl with ignoring := false } } := by
  simp [transactionEnd, running, ignoring]

theorem transactionEnd_of_idle (running : s.ttp.held = false) (listening : s.svl.ignoring = false)
    (idle : s.svl.outgoing = none) (bits : List Bool) (n : Nat) : transactionEnd bits n s = s := by
  simp [transactionEnd, running, listening, idle]

/-- What the bits of a transaction ask at its end (R171). -/
def served (bits : List Bool) (s : State) : State := if s.svl.taken then s else serveBytes (bytesOfBits bits) s

theorem transactionEnd_of_outgoing (running : s.ttp.held = false) (listening : s.svl.ignoring = false) {out : Response}
    (outgoing : s.svl.outgoing = some out) (bits : List Bool) (n : Nat) :
    transactionEnd bits n s = { served bits s with svl := (served bits s).svl.ended out n } := by
  simp only [transactionEnd, running, listening, outgoing, served]
  rfl

theorem served_of_taken (taken : s.svl.taken = true) (bits : List Bool) : served bits s = s := if_pos taken

theorem served_of_open (opened : s.svl.taken = false) (bits : List Bool) :
    served bits s = serveBytes (bytesOfBits bits) s :=
  if_neg (by rw [opened]; exact nofun)

/-- The link's answers move no timer on. -/
theorem settleTimers_answer (s : State) (op : Byte) (r : Reply) : settleTimers s (s.answer op r) = s.answer op r :=
  settleTimers_of_unmoved fun id => congrArg (fun m => m.entries.head?) (State.port_of_ports rfl rfl id)

end

/-! ## What the bytes of a transaction ask (R171) -/

theorem ownerOf_eq_none_iff (op : Byte) : ownerOf op = none ↔ requestLength op = none := by
  rw [← Option.isNone_iff_eq_none, ← Option.isNone_iff_eq_none, ← Option.not_isSome, ← Option.not_isSome, ownerOf_isSome]

/-- The payload of every request has at most 22 bytes (Table 10.9). -/
theorem requestLength_le {op : Byte} {n : Nat} (h : requestLength op = some n) : n ≤ 22 := by
  obtain ⟨before, after, split, -⟩ := List.lookup_eq_some_iff.mp h
  have mem : (op.toNat, n) ∈ opcodeTable := by rw [split]; simp
  have all : ∀ entry ∈ opcodeTable, entry.2 ≤ 22 := by decide
  exact all _ mem

theorem request_of_bad_length {s : State} (taken : takesRequest s = true) {op : Byte} {b : Body}
    (bad : fitsLength op b = false) (own : List Byte → State → State × Reply) :
    request op b own s = s.answer op ⟨.badLength, []⟩ := by
  rw [request, if_pos taken, if_neg (by rw [bad]; exact nofun)]
  rfl

section
variable {op : Byte} {s : State} (asks : op ≠ 0)
include asks

theorem serveBytes_of_unknown (unknown : requestLength op = none) (rest : List Byte) :
    serveBytes (op :: rest) s = s.answer op ⟨.unknown, []⟩ := by
  simp only [serveBytes, if_neg asks, (ownerOf_eq_none_iff op).mpr unknown]
  rfl

theorem serveBytes_of_owner {own : List Byte → State → State × Reply} (owner : ownerOf op = some own) {rest : List Byte}
    {b : Body} (arrived : arrivedBody rest = some b) :
    serveBytes (op :: rest) s = settleTimers s (request op b own s) := by
  simp only [serveBytes, if_neg asks, owner, arrived]

/-- A request that is truncated, or whose length byte is above 62, is answered BAD_LENGTH. -/
theorem serveBytes_of_bad_length (taken : takesRequest s = true) (known : requestLength op ≠ none) {rest : List Byte}
    (bad : rest = [] ∨ ∃ len tail, rest = len :: tail ∧ (62 < len.toNat ∨ tail.length < len.toNat)) :
    serveBytes (op :: rest) s = s.answer op ⟨.badLength, []⟩ := by
  obtain ⟨own, owner⟩ := Option.ne_none_iff_exists'.mp (mt (ownerOf_eq_none_iff op).mp known)
  have truncated (none_arrived : arrivedBody rest = none) : serveBytes (op :: rest) s = s.answer op ⟨.badLength, []⟩ := by
    simp only [serveBytes, if_neg asks, owner, none_arrived]
    rfl
  rcases bad with rfl | ⟨len, tail, rfl, bad⟩
  · exact truncated rfl
  by_cases above : 62 < len.toNat
  · have misfit : fitsLength op ⟨len, []⟩ = false := by
      rw [fitsLength, Bool.and_eq_false_iff, beq_eq_false_iff_ne]
      refine .inl fun length => ?_
      have most : len.toNat ≤ 22 := requestLength_le length
      omega
    have arrived : arrivedBody (len :: tail) = some ⟨len, []⟩ := if_pos above
    rw [serveBytes_of_owner asks owner arrived, request_of_bad_length taken misfit,
      settleTimers_answer]
  · have short : ¬len.toNat ≤ tail.length := Nat.not_le.mpr (bad.resolve_left above)
    exact truncated ((if_neg above).trans (if_neg short))

end

/-- Settles O47. -/
theorem transactionsMoveTheResponses : Obligations.TransactionsMoveTheResponses := by
  unfold Obligations.TransactionsMoveTheResponses
  refine ⟨fun b j lt => bitsOf_getElem? b lt, fun bytes extra short => bytesOfBits_flatMap_append bytes short, rfl,
    fun s op st payload => ⟨fun idle => State.answer_of_idle idle op ⟨st, payload⟩,
      fun inside => State.answer_of_outgoing inside op ⟨st, payload⟩⟩,
    fun s running => ⟨fun ignoring => ?ignoring, fun listening idle => ?idle, fun listening out outgoing => ?inside⟩⟩
  case ignoring =>
    refine ⟨congrArg Host.Outcome.next (transactionStart_of_ignoring ignoring), sdoBit_of_ignoring running ignoring,
      fun bits n => congrArg Host.Outcome.next (transactionEnd_of_ignoring running ignoring bits n)⟩
  case idle =>
    have taken : takesRequest s = true := (takesRequest_iff s).mpr ⟨running, listening, .inl idle⟩
    refine ⟨congrArg Host.Outcome.next (transactionStart_of_idle running listening idle),
      fun bits n => congrArg Host.Outcome.next (transactionEnd_of_idle running listening idle bits n),
      fun i => ⟨sdoBit_of_idle running listening idle i, sdoByte_of_idle running listening idle i⟩,
      fun rest => congrArg Host.Outcome.next ?_, fun op b => congrArg Host.Outcome.next ?_⟩
    · rw [nopRequest, if_pos taken, idle]; rfl
    · rw [if_pos taken, State.answer_of_idle idle]; rfl
  case inside =>
    have inside : s.svl.outgoing ≠ none := by rw [outgoing]; exact nofun
    have takes (opened : s.svl.taken = false) : takesRequest s = true :=
      (takesRequest_iff s).mpr ⟨running, listening, .inr opened⟩
    have deaf (taken : s.svl.taken = true) : takesRequest s = false := by
      refine Bool.eq_false_iff.mpr fun takes => ?_
      obtain ⟨-, -, idle | opened⟩ := (takesRequest_iff s).mp takes
      · exact inside idle
      · rw [taken] at opened; cases opened
    refine ⟨congrArg Host.Outcome.next (transactionStart_of_outgoing inside),
      fun i => ⟨sdoByte_of_outgoing running listening outgoing i, fun j lt => sdoBit_of_outgoing running listening outgoing i lt⟩,
      fun rest => congrArg Host.Outcome.next ?_,
      fun op b => ⟨fun taken => congrArg Host.Outcome.next ?_, fun opened => congrArg Host.Outcome.next ?_⟩,
      fun bits n => ⟨served bits s, congrArg Host.Outcome.next ?_, fun asked => ?_, fun opened op rest bytes asks => ?_⟩⟩
    · cases taken : s.svl.taken with
      | true =>
        rw [nopRequest, if_neg (by rw [deaf taken]; exact nofun)]
        have kept : s.svl = { s.svl with taken := true } := by rw [← taken]
        exact congrArg (fun v => { s with svl := v }) kept
      | false => rw [nopRequest, if_pos (takes taken), if_pos (Option.isSome_iff_ne_none.mpr inside)]
    · rw [if_neg (by rw [deaf taken]; exact nofun)]
    · rw [if_pos (takes opened), State.answer_of_outgoing inside]; rfl
    · rw [transactionEnd_of_outgoing running listening outgoing]
      have size : out.bytes.length = 3 + out.payload.length := by
        simp only [Response.bytes, List.length_cons]
        omega
      rw [Svl.ended, size]
      rfl
    · by_cases taken : s.svl.taken = true
      · exact served_of_taken taken bits
      · rw [served_of_open (Bool.eq_false_iff.mpr taken)]
        rcases bytes : bytesOfBits bits with _ | ⟨op, rest⟩
        · rfl
        · have nop : op = 0 := by
            rcases asked with set | none_sent | nop
            · exact absurd set taken
            · rw [bytes] at none_sent; cases none_sent
            · rw [bytes] at nop; exact Option.some.inj nop
          exact if_pos nop
    · rw [served_of_open opened, bytes]
      exact ⟨fun unknown => serveBytes_of_unknown asks unknown rest,
        fun known bad => serveBytes_of_bad_length asks (takes opened) known bad⟩

end Sys2Proof.Machine
end

section
/-! PROOF. What an owner answers to a request does not depend on the state of the link: its reply is the same whatever responses
are pending, outgoing or next (R172; log entry 8). -/

namespace Sys2Proof.Machine

/-! ## The state of the link -/

/-- The state with the link's response fields replaced; the attention flags and the hold list stay. -/
def State.relink (v : Svl) (s : State) : State :=
  { s with svl := { v with attention := s.svl.attention, hold := s.svl.hold } }

/-- An owner whose reply does not look at the link. -/
def RepliesAlike (own : List Byte → State → State × Reply) : Prop := ∀ p s v, (own p (s.relink v)).2 = (own p s).2

section
variable (s : State) (v : Svl)

theorem drainTest_relink (b : SortBin) : drainTest (s.relink v) b = (drainTest s b).relink v := by
  have bin : (s.relink v).bin b = s.bin b := rfl
  have busy : pulseRunning (s.relink v) b = pulseRunning s b := rfl
  simp only [drainTest, bin, busy]
  split <;> rfl

theorem grant_relink (b : SortBin) : grant (s.relink v) b = (grant s b).relink v := by
  have bin : (s.relink v).bin b = s.bin b := rfl
  simp only [grant, bin]
  split <;> rfl

theorem resizeBin_relink (b : SortBin) (capacity margin : Nat) :
    resizeBin (s.relink v) b capacity margin = (resizeBin s b capacity margin).relink v := by
  have bin : (s.relink v).bin b = s.bin b := rfl
  simp only [resizeBin, bin]
  split <;> rfl

theorem modPart_relink (q : PocketNo) (f : Part → Part) : (s.relink v).modPart q f = (s.modPart q f).relink v := by
  rcases h : s.record q with _ | r
  · rw [modPart_of_none h]
    exact modPart_of_none (s := s.relink v) h f
  · rw [modPart_of_some h]
    exact modPart_of_some (s := s.relink v) h f

/-! ## VERDICT -/

theorem rule_relink (q : PocketNo) (r : Part) (kind : VerdictKind) (dest : Dest) :
    rule (s.relink v) q r kind dest = ((rule s q r kind dest).1.relink v, (rule s q r kind dest).2) := by
  have ring : (s.relink v).ptk.ring = s.ptk.ring := rfl
  have offset : offsetOf (s.relink v) q = offsetOf s q := rfl
  have bin (b : SortBin) : (s.relink v).bin b = s.bin b := rfl
  have override : verdictOverride (s.relink v) r = verdictOverride s r := rfl
  have limit : retestLimitOf (s.relink v) r = retestLimitOf s r := rfl
  rcases kind with _ | _
  · rcases dest with _ | b
    · simp only [rule, modPart_relink]
      rfl
    · simp only [rule, ring, offset, override, reserve, bin, grant_relink]
      split
      · rfl
      · cases (s.bin b).grants (verdictOverride s r) with
        | false => rfl
        | true =>
          simp only [if_true, modPart_relink]
          rfl
  · simp only [rule, limit, modPart_relink]
    split <;> rfl

theorem judge_relink (q : PocketNo) (kind : VerdictKind) (dest : Dest) :
    judge (s.relink v) q kind dest = ((judge s q kind dest).1.relink v, (judge s q kind dest).2) := by
  have record : (s.relink v).record q = s.record q := rfl
  simp only [judge, record]
  split
  · rfl
  · split
    · exact rule_relink s v q _ kind dest
    · rfl

end

theorem ownVerdict_alike : RepliesAlike ownVerdict := by
  intro p s v
  unfold ownVerdict
  split
  next n k b =>
    have named : pocketOf (s.relink v) n = pocketOf s n := rfl
    simp only [named, judge_relink]
    split <;> rfl
  next => rfl

/-! ## The run control and the turret -/

theorem ownSetRing_alike : RepliesAlike ownSetRing := by
  intro p s v
  simp only [ownSetRing, apply_ite Prod.snd]
  rfl

theorem ownStart_alike : RepliesAlike ownStart := by
  intro p s v
  have state : (s.relink v).ptk.opState = s.ptk.opState := rfl
  have active : activeBank (s.relink v) = activeBank s := rfl
  unfold ownStart
  rw [state, active]
  split
  · rfl
  · rfl
  · split <;> rfl

theorem ownStop_alike : RepliesAlike ownStop := by
  intro p s v
  have state : (s.relink v).ptk.opState = s.ptk.opState := rfl
  unfold ownStop
  rw [state]
  split <;> rfl

theorem ownClearTrack_alike : RepliesAlike ownClearTrack := by
  intro p s v
  simp only [ownClearTrack, apply_ite Prod.snd]
  rfl

theorem ownReadPocket_alike : RepliesAlike ownReadPocket := by
  intro p s v
  unfold ownReadPocket
  split
  next n =>
    have named : pocketOf (s.relink v) n = pocketOf s n := rfl
    rw [named]
    split <;> rfl
  next => rfl

theorem ownSetAux_alike : RepliesAlike ownSetAux := by
  intro p s v
  have state : (s.relink v).ptk.opState = s.ptk.opState := rfl
  unfold ownSetAux
  rw [state]
  split
  · split
    · rfl
    · split
      · split <;> rfl
      · rfl
  · rfl

/-! ## The meter links -/

theorem ownSetMeter_alike : RepliesAlike ownSetMeter := by
  intro p s v
  unfold ownSetMeter
  split
  · split
    · rfl
    next id _ =>
      have port : (s.relink v).port id = s.port id := State.port_of_ports rfl rfl id
      rw [port]
      split
      · rfl
      · split <;> rfl
  · rfl

theorem ownRestoreMeter_alike : RepliesAlike ownRestoreMeter := by
  intro p s v
  unfold ownRestoreMeter
  split
  · split
    · rfl
    next id _ =>
      have port : (s.relink v).port id = s.port id := State.port_of_ports rfl rfl id
      rw [port]
      split <;> rfl
  · rfl

theorem ownReadMeter_alike : RepliesAlike ownReadMeter := by
  intro p s v
  unfold ownReadMeter
  split
  · split
    · rfl
    next id _ =>
      have port : (s.relink v).port id = s.port id := State.port_of_ports rfl rfl id
      simp only [meterPayload, port]
  · rfl

/-! ## The banks -/

theorem writableBank_relink (s : State) (v : Svl) (code : Byte) : writableBank (s.relink v) code = writableBank s code := by
  have bank (k : BankId) : (s.relink v).bank k = s.bank k := State.bank_of_banks rfl rfl k
  simp only [writableBank, bank]
  rfl

theorem ownWriteLot_alike : RepliesAlike ownWriteLot := by
  intro p s v
  unfold ownWriteLot
  split
  · rw [writableBank_relink]
    split
    · rfl
    · split <;> rfl
  · rfl

theorem ownWriteEntry_alike : RepliesAlike ownWriteEntry := by
  intro p s v
  unfold ownWriteEntry
  split
  · rw [writableBank_relink]
    split
    · rfl
    · split <;> rfl
  · rfl

theorem ownWriteClass_alike : RepliesAlike ownWriteClass := by
  intro p s v
  unfold ownWriteClass
  split
  · rw [writableBank_relink]
    split
    · rfl
    · split <;> rfl
  · rfl

theorem ownCopyBank_alike : RepliesAlike ownCopyBank := by
  intro p s v
  have bank (k : BankId) : (s.relink v).bank k = s.bank k := State.bank_of_banks rfl rfl k
  unfold ownCopyBank
  split
  · rw [writableBank_relink]
    split
    · rfl
    · simp only [bank, apply_ite Prod.snd]
      rfl
  · rfl

/-- Which bank is made ACTIVE does not depend on the link. -/
theorem switchTo_relink (s : State) (v : Svl) (k : BankId) : switchTo (s.relink v) k = (switchTo s k).relink v := by
  cases k <;> rfl

theorem ownActivate_alike : RepliesAlike ownActivate := by
  intro p s v
  have state : (s.relink v).ptk.opState = s.ptk.opState := rfl
  have bank (k : BankId) : (s.relink v).bank k = s.bank k := State.bank_of_banks rfl rfl k
  have check (k : Bank) : failingCheck (s.relink v) k = failingCheck s k := rfl
  have zeroed (k : BankId) : (s.relink v).modCounts k (fun _ => .zero) = (s.modCounts k fun _ => .zero).relink v := by
    cases k <;> rfl
  unfold ownActivate
  split
  · split
    · rfl
    · simp only [state, bank, check, zeroed, switchTo_relink]
      split
      · rfl
      · split
        · rfl
        · rfl
        · split <;> rfl
  · rfl

theorem ownReadBank_alike : RepliesAlike ownReadBank := by
  intro p s v
  have bank (k : BankId) : (s.relink v).bank k = s.bank k := State.bank_of_banks rfl rfl k
  unfold ownReadBank
  split
  · split
    · rw [bank]
    · rfl
  · rfl

theorem ownReadLotCounts_alike : RepliesAlike ownReadLotCounts := by
  intro p s v
  have bank (k : BankId) : (s.relink v).bank k = s.bank k := State.bank_of_banks rfl rfl k
  unfold ownReadLotCounts
  split
  · split
    · rfl
    · rw [bank]
  · rfl

/-! ## The bins -/

theorem setBinChecked_relink (s : State) (v : Svl) (b : SortBin) (capacity margin : Nat) (close : Bool) :
    setBinChecked (s.relink v) b capacity margin close =
      ((setBinChecked s b capacity margin close).1.relink v, (setBinChecked s b capacity margin close).2) := by
  have bin : (s.relink v).bin b = s.bin b := rfl
  have closes : closable (s.relink v) b = closable s b := rfl
  simp only [setBinChecked, bin, closes, resizeBin_relink]
  split
  · split <;> rfl
  · split <;> rfl

theorem ownSetBin_alike : RepliesAlike ownSetBin := by
  intro p s v
  unfold ownSetBin
  split
  · split
    · simp only [setBinChecked_relink]
      split <;> rfl
    · rfl
  · rfl

theorem ownReadBin_alike : RepliesAlike ownReadBin := by
  intro p s v
  unfold ownReadBin
  split
  · split <;> rfl
  · rfl

theorem beginSwap_relink (s : State) (v : Svl) (b : SortBin) : beginSwap (s.relink v) b = (beginSwap s b).relink v :=
  drainTest_relink (s.setBin b { s.bin b with state := .draining }) v b

theorem ownSwapBegin_alike : RepliesAlike ownSwapBegin := by
  intro p s v
  unfold ownSwapBegin
  split
  · split
    · rfl
    next b _ =>
      have bin : (s.relink v).bin b = s.bin b := rfl
      simp only [bin, beginSwap_relink]
      split <;> rfl
  · rfl

theorem ownSwapDone_alike : RepliesAlike ownSwapDone := by
  intro p s v
  unfold ownSwapDone
  split
  · split
    · rfl
    next b _ =>
      have bin : (s.relink v).bin b = s.bin b := rfl
      simp only [bin]
      split <;> rfl
  · rfl

/-! ## The drift monitor and the trip controller -/

theorem ownSetDrift_alike : RepliesAlike ownSetDrift := by
  intro p s v
  unfold ownSetDrift
  split <;> rfl

theorem ownClearDrift_alike : RepliesAlike ownClearDrift := by
  intro p s v
  simp only [ownClearDrift, apply_ite Prod.snd]
  rfl

theorem ownSetTrip_alike : RepliesAlike ownSetTrip := by
  intro p s v
  have state : (s.relink v).ptk.opState = s.ptk.opState := rfl
  unfold ownSetTrip
  rw [state]
  split
  · split
    · rfl
    · split <;> rfl
  · rfl

/-- A trip's causes and its action complete flag are those of the trip configuration, the causes and the records (R162). -/
theorem ownTrip_alike : RepliesAlike ownTrip := by
  have complete (u : State) : completeAtTrigger (tripAction (tripEntry u .command)) =
      (u.trc.config.action == .recirculate || occupiedCount u == 0) := by
    rw [completeAtTrigger, tripAction_occupiedCount, tripAction_frame]
    rfl
  intro p s v
  simp only [ownTrip, tripTrigger_trc, complete]
  rfl

theorem ownClearTrip_alike : RepliesAlike ownClearTrip := by
  intro p s v
  simp only [ownClearTrip, apply_ite Prod.snd]
  rfl

/-! ## Every owner -/

theorem owners_alike : ∀ entry ∈ owners, RepliesAlike entry.2 := by
  simp only [owners, List.forall_mem_cons]
  exact ⟨fun _ _ _ => rfl, fun _ _ _ => rfl, fun _ _ _ => rfl, ownVerdict_alike, ownSetRing_alike, ownStart_alike,
    ownStop_alike, ownClearTrack_alike, ownReadPocket_alike, fun _ _ _ => rfl, ownSetAux_alike, ownSetMeter_alike,
    ownRestoreMeter_alike, ownReadMeter_alike, ownWriteLot_alike, ownWriteEntry_alike, ownWriteClass_alike,
    ownCopyBank_alike, ownActivate_alike, ownReadBank_alike, ownReadLotCounts_alike, ownSetBin_alike, ownReadBin_alike,
    ownSwapBegin_alike, ownSwapDone_alike, ownSetDrift_alike, fun _ _ _ => rfl, ownClearDrift_alike, ownSetTrip_alike,
    ownTrip_alike, fun _ _ _ => rfl, ownClearTrip_alike, List.forall_mem_nil _⟩

/-- The reply of a request's owner is the same whatever the link holds. -/
theorem ownerOf_alike {op : Byte} {own : List Byte → State → State × Reply} (h : ownerOf op = some own) : RepliesAlike own := by
  obtain ⟨before, after, split, -⟩ := List.lookup_eq_some_iff.mp h
  exact owners_alike (op.toNat, own) (by rw [split]; simp)

end Sys2Proof.Machine
end

section
/-! PROOF. Every request (R171, R172, R174, R187): when it is taken, what it leaves of the link, and that a transaction's bits do
what the request's own command does (log entries 8, 20). -/

namespace Sys2Proof.Machine

/-! ## What a request leaves of the link -/

/-- The reply to a request that is taken (R171). -/
def replyTo (op : Byte) (b : Body) (own : List Byte → State → State × Reply) (s : State) : Reply :=
  if fitsLength op b then (own (b.bytes.take b.len.toNat) s).2 else ⟨.badLength, []⟩

/-- The state that a request leaves before its reply is held. -/
def ownedBy (op : Byte) (b : Body) (own : List Byte → State → State × Reply) (s : State) : State :=
  if fitsLength op b then (own (b.bytes.take b.len.toNat) s).1 else s

/-- What a request's own command does, TRIP with the expiry that its action may bring about (R57). -/
def afterRequest (op : Byte) (b : Body) (own : List Byte → State → State × Reply) (s : State) : State :=
  if op = 0x61 then settleTimers s (request op b own s) else request op b own s

section
variable {op : Byte} {b : Body} {own : List Byte → State → State × Reply} {s : State}

theorem request_of_taken (taken : takesRequest s = true) :
    request op b own s = (ownedBy op b own s).answer op (replyTo op b own s) := by
  rw [request, if_pos taken, ownedBy, replyTo]
  split <;> rfl

theorem afterRequest_of_not_taken (notTaken : takesRequest s = false) : afterRequest op b own s = s := by
  rw [afterRequest, request_of_not_taken notTaken, settleTimers_self, ite_self]

theorem fitsLength_of_bad (bad : requestLength op ≠ some b.len.toNat ∨ b.bytes.length < b.len.toNat) :
    fitsLength op b = false := by
  rw [fitsLength, Bool.and_eq_false_iff, beq_eq_false_iff_ne, decide_eq_false_iff_not, Nat.not_le]
  exact bad

theorem afterRequest_of_bad_length (taken : takesRequest s = true)
    (bad : requestLength op ≠ some b.len.toNat ∨ b.bytes.length < b.len.toNat) :
    afterRequest op b own s = s.answer op ⟨.badLength, []⟩ := by
  rw [afterRequest, request_of_bad_length taken (fitsLength_of_bad bad), settleTimers_answer, ite_self]

variable (owner : ownerOf op = some own)
include owner

/-- A refusal changes nothing; an accepted request makes its owner's change (R174). -/
theorem ownedBy_cases : ownedBy op b own s = s ∨ ((replyTo op b own s).status = .ok ∧ OwnerChange op s (ownedBy op b own s)) := by
  rw [ownedBy, replyTo]
  split
  · exact ownerOf_answers owner _ s
  · exact .inl rfl

theorem ownedBy_svl : (ownedBy op b own s).svl =
    { s.svl with attention := (ownedBy op b own s).svl.attention, hold := (ownedBy op b own s).svl.hold } := by
  rcases ownedBy_cases (b := b) (s := s) owner with same | ⟨-, move⟩
  · rw [same]
  · exact move.still.svl

/-- The link after a request: its answer to the link as it was, with other attention flags and another hold list. -/
theorem afterRequest_svl (taken : takesRequest s = true) : ∃ flags hold,
    (afterRequest op b own s).svl =
      { s.svl.answer ⟨op, (replyTo op b own s).status, (replyTo op b own s).payload⟩ with attention := flags, hold := hold } := by
  have answered : (request op b own s).svl =
      { s.svl.answer ⟨op, (replyTo op b own s).status, (replyTo op b own s).payload⟩ with
        attention := (ownedBy op b own s).svl.attention, hold := (ownedBy op b own s).svl.hold } := by
    rw [request_of_taken taken, State.answer]
    dsimp only
    rw [ownedBy_svl owner, Svl.answer, Svl.answer]
    dsimp only
    split <;> rfl
  unfold afterRequest
  split
  · rw [settleTimers, expireWhere_frame]
    exact ⟨_, _, by rw [answered]⟩
  · exact ⟨_, _, answered⟩

omit owner in
theorem afterRequest_changes {c : Instr} (asked : asks op c = true) (owner : ownerOf op = some own) :
    Changes c s (afterRequest op b own s) := by
  have changes := request_changes asked owner b s
  unfold afterRequest
  split
  · exact settleTimers_changes changes
  · exact changes

/-! ## A request but TRIP is followed by no expiry (R57) -/

omit owner in
/-- No expiry follows where every port keeps its oldest entry or loses all its entries. -/
theorem settleTimers_of_quiet {s t : State}
    (quiet : ∀ id, (t.port id).entries.head? = (s.port id).entries.head? ∨ (t.port id).entries = []) :
    settleTimers s t = t := by
  have early (id : PortId) : ((t.port id).due && movedOn s t id) = false := by
    rcases quiet id with same | empty
    · rw [movedOn, same, bne_self_eq_false, Bool.and_false]
    · have not_due : (t.port id).due = false := Bool.eq_false_iff.mpr fun due => MeterPort.entries_of_due due empty
      rw [not_due, Bool.false_and]
  exact expireWhere_of_none (early .a) (early .b)

omit owner in
theorem OwnerChange.quiet {t : State} (notTrip : op ≠ 0x61) (move : OwnerChange op s t) (id : PortId) :
    (t.port id).entries.head? = (s.port id).entries.head? ∨ (t.port id).entries = [] := by
  have kept {u : State} (portA : u.portA = s.portA) (portB : u.portB = s.portB) :
      (u.port id).entries.head? = (s.port id).entries.head? ∨ (u.port id).entries = [] :=
    .inl (by rw [State.port_of_ports portA portB])
  cases move with
  | trip => exact absurd rfl notTrip
  | clearTrack => rw [clearTrack_frame]; exact .inr (by cases id <;> rfl)
  | timeout _ other ms => exact .inl (State.modPort_entries (by rfl) id)
  | restore _ other => exact .inl (State.modPort_entries (by rfl) id)
  | verdictBin _ p r b => exact kept (by rw [grant_frame]; rfl) (by rw [grant_frame]; rfl)
  | write => exact kept (by rw [State.modBank_frame]) (by rw [State.modBank_frame])
  | activateDraining => exact kept (by rw [switchTo_frame]) (by rw [switchTo_frame])
  | activateStandby =>
    exact kept (by rw [switchTo_frame, State.modCounts, State.modBank_frame])
      (by rw [switchTo_frame, State.modCounts, State.modBank_frame])
  | resizeBin => exact kept (by rw [resizeBin_frame]) (by rw [resizeBin_frame])
  | swapBegin => exact kept (by rw [beginSwap_frame]) (by rw [beginSwap_frame])
  | _ => exact kept rfl rfl

/-- The arrival of a request in a transaction's bits, with what follows it at once, is its own command's. -/
theorem settleTimers_request (taken : takesRequest s = true) :
    settleTimers s (request op b own s) = afterRequest op b own s := by
  unfold afterRequest
  split
  · rfl
  next notTrip =>
    have port (id : PortId) : (request op b own s).port id = (ownedBy op b own s).port id := by
      rw [request_of_taken taken]
      exact State.port_of_ports rfl rfl id
    refine settleTimers_of_quiet fun id => ?_
    rw [port]
    rcases ownedBy_cases (b := b) (s := s) owner with same | ⟨-, move⟩
    · rw [same]; exact .inl rfl
    · exact move.quiet notTrip id

end

/-! ## A request in its transaction -/

theorem bytesOfBits_flatMap (bytes : List Byte) (extra : List Bool) :
    bytesOfBits (bytes.flatMap bitsOf ++ extra) = bytes ++ bytesOfBits extra := by
  induction bytes with
  | nil => rfl
  | cons b bytes ih => rw [List.flatMap_cons, List.append_assoc, bytesOfBits_bitsOf_append, ih, List.cons_append]

/-- The bytes that spell a request, whatever follows them, are the arrival of its body (R171). -/
theorem arrivedBody_of_spelled {b : Body} (short : b.len.toNat ≤ 62) (whole : b.bytes.length = b.len.toNat) (more : List Byte) :
    arrivedBody (b.len :: (b.bytes ++ more)) = some b := by
  have enough : b.len.toNat ≤ (b.bytes ++ more).length := by rw [List.length_append]; omega
  have payload : (b.bytes ++ more).take b.len.toNat = b.bytes := by rw [← whole, List.take_left]
  rw [arrivedBody, if_neg (Nat.not_lt.mpr short), if_pos enough, payload]

theorem serveBytes_of_spelled {op : Byte} {b : Body} {own : List Byte → State → State × Reply} {s : State}
    (owner : ownerOf op = some own) (taken : takesRequest s = true) (short : b.len.toNat ≤ 62)
    (whole : b.bytes.length = b.len.toNat) (extra : List Bool) :
    serveBytes (bytesOfBits ((op :: b.len :: b.bytes).flatMap bitsOf ++ extra)) s = afterRequest op b own s := by
  have asks : op ≠ 0 := by
    rintro rfl
    rw [(ownerOf_eq_none_iff 0).mpr rfl] at owner
    cases owner
  rw [bytesOfBits_flatMap, List.cons_append, List.cons_append,
    serveBytes_of_owner asks owner (arrivedBody_of_spelled short whole _), settleTimers_request owner taken]

section
variable {i : Instr} {op : Byte} {b : Body} {own : List Byte → State → State × Reply} {s : State}
  (request : requestOf i = some (op, b)) (owner : ownerOf op = some own) (taken : takesRequest s = true)
include request owner taken

/-- In a transaction a request waits as the next response, and the transaction's opcode is taken (R171, R172). -/
theorem afterRequest_inside (inside : s.svl.outgoing ≠ none) :
    (afterRequest op b own s).ttp.held = false ∧ (afterRequest op b own s).svl.ignoring = false ∧
      (afterRequest op b own s).svl.outgoing = s.svl.outgoing ∧ (afterRequest op b own s).svl.taken = true ∧
      (afterRequest op b own s).svl.next = some ⟨op, (replyTo op b own s).status, (replyTo op b own s).payload⟩ := by
  obtain ⟨running, listening, -⟩ := (takesRequest_iff s).mp taken
  obtain ⟨held, -⟩ := Changes.own (afterRequest_changes (b := b) (s := s) (asks_of_requestOf request) owner)
  obtain ⟨flags, hold, link⟩ := afterRequest_svl (b := b) owner taken
  rw [Svl.answer, if_pos (Option.isSome_iff_ne_none.mpr inside)] at link
  rw [link]
  exact ⟨held.trans running, listening, rfl, rfl, rfl⟩

omit request in
/-- A request with no transaction open leaves its response pending (log entry 8). -/
theorem afterRequest_alone (idle : s.svl.outgoing = none) :
    (afterRequest op b own s).svl.pending = ⟨op, (replyTo op b own s).status, (replyTo op b own s).payload⟩ := by
  obtain ⟨flags, hold, link⟩ := afterRequest_svl (b := b) owner taken
  rw [Svl.answer, if_neg (by rw [idle]; exact nofun)] at link
  rw [link]

end

theorem takesRequest_of_taken {s : State} (inside : s.svl.outgoing ≠ none) (taken : s.svl.taken = true) :
    takesRequest s = false := by
  refine Bool.eq_false_iff.mpr fun takes => ?_
  obtain ⟨-, -, idle | opened⟩ := (takesRequest_iff s).mp takes
  · exact inside idle
  · rw [taken] at opened; cases opened

/-- The reply is the same at the start of a transaction as outside it. -/
theorem replyTo_relink {op : Byte} {own : List Byte → State → State × Reply} (owner : ownerOf op = some own) (b : Body)
    (s : State) (v : Svl) : replyTo op b own (s.relink v) = replyTo op b own s := by
  unfold replyTo
  split
  · exact ownerOf_alike owner _ s v
  · rfl

/-- Settles O48. -/
theorem refusedRequestsChangeNothing : Obligations.RefusedRequestsChangeNothing := by
  unfold Obligations.RefusedRequestsChangeNothing
  refine ⟨by decide +kernel, takesRequest_iff, fun i op b s asked => ?_⟩
  obtain ⟨own, owner, run⟩ := exec_of_requestOf asked
  have run (s : State) : exec i s = .next (afterRequest op b own s) := run s
  refine ⟨fun notTaken => ?_, fun taken => ⟨fun bad => ?_, ownedBy op b own s, replyTo op b own s, ?_, fun refused => ?_⟩,
    fun taken idle bits n => ?_, fun taken inside short whole extra n => ?_⟩
  · rw [run, afterRequest_of_not_taken notTaken]
  · rw [run, afterRequest_of_bad_length taken bad]
  · rw [run, afterRequest, request_of_taken taken]
  · exact (ownedBy_cases owner).resolve_right fun ⟨accepted, _⟩ => refused accepted
  · obtain ⟨running, listening, -⟩ := (takesRequest_iff s).mp taken
    have start := transactionStart_of_idle running listening idle
    have linked : transactionStart s = s.relink (transactionStart s).svl := by rw [start]; rfl
    have opened : takesRequest (transactionStart s) = true := by
      rw [takesRequest_iff, start]; exact ⟨running, listening, .inr rfl⟩
    have outgoing : (transactionStart s).svl.outgoing = some s.svl.pending := by rw [start]
    have reply : replyTo op b own (transactionStart s) = replyTo op b own s := by
      rw [linked, replyTo_relink owner]
    obtain ⟨held, hears, kept, used, next⟩ :=
      afterRequest_inside (b := b) asked owner opened (by rw [outgoing]; exact nofun)
    rw [outgoing] at kept
    rw [reply] at next
    have alone := afterRequest_alone (b := b) owner taken idle
    refine ⟨transactionStart s, afterRequest op b own (transactionStart s), _, afterRequest op b own s, rfl, run _, ?_,
      congrArg Host.Outcome.next (transactionEnd_of_outgoing held hears kept bits n), run s, kept, rfl, ?_, by rw [alone]⟩
    · rw [run, afterRequest_of_not_taken (takesRequest_of_taken (by rw [kept]; exact nofun) used)]
    · rw [served_of_taken used, alone, Svl.ended, next]
      rfl
  · obtain ⟨running, listening, free⟩ := (takesRequest_iff s).mp taken
    have opened := free.resolve_left inside
    obtain ⟨out, outgoing⟩ := Option.ne_none_iff_exists'.mp inside
    obtain ⟨held, hears, kept, used, -⟩ := afterRequest_inside (b := b) asked owner taken inside
    refine ⟨afterRequest op b own s, run s, used, fun bits => congrArg Host.Outcome.next ?_⟩
    rw [transactionEnd_of_outgoing running listening outgoing,
      transactionEnd_of_outgoing held hears (kept.trans outgoing), served_of_taken used, served_of_open opened,
      serveBytes_of_spelled owner taken short whole]

end Sys2Proof.Machine
end

section
/-! PROOF. The outcomes of a load arrival (Table 1.5, R15 to R17). -/

namespace Sys2Proof.Machine

/-- The state with the level that a load leaves (R29). -/
abbrev State.withLoadLevel (s : State) : State := { s with ttp := { s.ttp with loadLevel := true } }

theorem exec_loadArrival {s : State} (running : s.ttp.held = false) (refsel : Bool) :
    exec (.loadArrival refsel) s = .next (settleTimers s (loadArrival refsel s.withLoadLevel)) :=
  congrArg Host.Outcome.next (whileRunning_of_running running _)

/-! ## The load conflict (R17) -/

theorem drainTest_withLoadLevel (s : State) (b : SortBin) :
    drainTest s.withLoadLevel b = (drainTest s b).withLoadLevel := by
  have bin : s.withLoadLevel.bin b = s.bin b := rfl
  have busy : pulseRunning s.withLoadLevel b = pulseRunning s b := rfl
  simp only [drainTest, bin, busy]
  split <;> rfl

/-- A hand-off leaves the track but for the record of its pocket, which differs from the old one in its results alone, and it
does not look at the load level. -/
theorem handOff_eq_setRecord {s : State} {p : PocketNo} {r : Part} (h : s.record p = some r) :
    ∃ (u : State) (w : Part), handOff s p r.state = u.setRecord p (some w) ∧
      handOff s.withLoadLevel p r.state = u.withLoadLevel.setRecord p (some w) ∧ u.ptk = s.ptk ∧ w.voided = r.voided := by
  have kept {u : State} (track : u.ptk = s.ptk) (plain : handOff s p r.state = u)
      (level : handOff s.withLoadLevel p r.state = u.withLoadLevel) :
      ∃ (u : State) (w : Part), handOff s p r.state = u.setRecord p (some w) ∧
        handOff s.withLoadLevel p r.state = u.withLoadLevel.setRecord p (some w) ∧ u.ptk = s.ptk ∧ w.voided = r.voided := by
    have same : u.record p = some r := by rw [State.record, track]; exact h
    refine ⟨u, r, ?_, ?_, track, rfl⟩
    · rw [State.setRecord_of_record same]; exact plain
    · rw [State.setRecord_of_record (s := u.withLoadLevel) same]; exact level
  rcases state : r.state with _ | (_ | b) | _ | _ | _ | _ <;> rw [state] at kept
  case measuring =>
    exact ⟨_, _, loseEntries_of_some h, loseEntries_of_some (s := s.withLoadLevel) h, rfl, Part.voided_withLost r _ _⟩
  case graded.bin =>
    have level : release s.withLoadLevel b = (release s b).withLoadLevel :=
      drainTest_withLoadLevel (s.setBin b { s.bin b with reserved := (s.bin b).reserved - 1 }) b
    exact kept (release_ptk s b) rfl level
  case held => exact kept (u := dropHold s p) rfl rfl rfl
  all_goals exact kept (u := s) rfl rfl rfl

/-- The record that voiding leaves (R7). -/
def Part.orVoided (r : Part) : Part := if r.state = .void then r else r.voided

/-- Voiding writes the pocket's record alone into the track, and it does not look at the load level. -/
theorem voidPocket_eq_setRecord {s : State} {p : PocketNo} {r : Part} (h : s.record p = some r) :
    (∃ u : State, u.ptk = s.ptk ∧ voidPocket s p = u.setRecord p (some r.orVoided)) ∧
      voidPocket s.withLoadLevel p = (voidPocket s p).withLoadLevel := by
  by_cases void : r.state = .void
  · rw [Part.orVoided, if_pos void, voidPocket_of_void h void, voidPocket_of_void (s := s.withLoadLevel) h void]
    exact ⟨⟨s, rfl, (State.setRecord_of_record h).symm⟩, rfl⟩
  · obtain ⟨u, w, out, level, track, voided⟩ := handOff_eq_setRecord h
    rw [Part.orVoided, if_neg void, voidPocket_of_handOff h void out,
      voidPocket_of_handOff (s := s.withLoadLevel) h void level, voided]
    exact ⟨⟨u, track, rfl⟩, rfl⟩

theorem voidPocket_record {s : State} {p : PocketNo} {r : Part} (h : s.record p = some r) (q : PocketNo) :
    (voidPocket s p).record q = if q = p then some r.orVoided else s.record q := by
  obtain ⟨⟨u, track, out⟩, -⟩ := voidPocket_eq_setRecord h
  rw [out]
  split
  next here => rw [here, State.record_setRecord_same]
  next other => rw [State.record_setRecord_ne _ (Ne.symm other), State.record, State.record, track]

/-- A load on an occupied pocket voids its record and counts the conflict, whatever the load level (R17). -/
theorem loadArrival_of_occupied {s : State} {r : Part} (h : s.record (pocketAt s 0) = some r) (refsel : Bool) :
    loadArrival refsel s.withLoadLevel =
      { voidPocket s (pocketAt s 0) with
        ptk := { s.ptk with
          records := (voidPocket s (pocketAt s 0)).ptk.records, conflicts := satAdd s.ptk.conflicts 1 }
        ttp := { s.ttp with loadLevel := true } } := by
  have occupied : loadArrival refsel s.withLoadLevel = loadConflict s.withLoadLevel (pocketAt s 0) := by
    have there : s.withLoadLevel.record (pocketAt s.withLoadLevel 0) = some r := h
    simp only [loadArrival, there]
    rfl
  rw [occupied, loadConflict, (voidPocket_eq_setRecord h).2, voidPocket_frame]

/-! ## The load on an EMPTY pocket (R15, R16) -/

theorem loadAdmitted_iff (s : State) (refsel : Bool) :
    loadAdmitted s refsel = true ↔ s.ptk.opState = .run ∨ (refsel = true ∧ (activeBank s).isSome = true) := by
  simp [loadAdmitted]

theorem port_createRecord (s : State) (p : PocketNo) (st : PartState) (tag : Option BankId) (refsel : Bool) (id : PortId) :
    (createRecord s p st tag refsel).port id = s.port id :=
  State.port_of_ports (by rw [createRecord_frame]) (by rw [createRecord_frame]) id

theorem createRecord_untracked (s : State) (p : PocketNo) (st : PartState) (tag : Option BankId) (refsel : Bool) :
    (createRecord s p st tag refsel).ptk.untracked = if tag = none then satAdd s.ptk.untracked 1 else s.ptk.untracked := by
  rcases tag with _ | (_ | _) <;> rfl

/-- What a product load report leaves depends on the drift monitor and the supervisor link alone. -/
theorem productLoad_of_same {s u : State} (drm : u.drm = s.drm) (svl : u.svl = s.svl) :
    productLoad u = { u with drm := (productLoad s).drm, svl := (productLoad s).svl } := by
  by_cases begins : s.drm.loaded.episodeBegins = true
  · rw [productLoad_of_begins begins, productLoad_of_begins (drm ▸ begins)]
    simp only [State.raise, drm, svl]
  · rw [productLoad_of_not_begins begins, productLoad_of_not_begins (drm ▸ begins), drm, ← svl]

/-- A load on an EMPTY pocket creates a record, and a measured product is reported to the drift monitor. -/
theorem loadArrival_of_empty {s : State} (empty : s.record (pocketAt s 0) = none) (refsel : Bool) :
    ∃ st d v, loadArrival refsel s = { createRecord s (pocketAt s 0) st (activeBank s) refsel with drm := d, svl := v } ∧
      (st = .measuring ↔ s.ptk.opState = .run ∨ (refsel = true ∧ (activeBank s).isSome = true)) ∧
      (st = .measuring ∨ st = .void) ∧
      (st = .measuring ∧ refsel = false → d = (productLoad s).drm ∧ v = (productLoad s).svl) ∧
      (st = .void ∨ refsel = true → d = s.drm ∧ v = s.svl) := by
  have same (st : PartState) : (createRecord s (pocketAt s 0) st (activeBank s) refsel).drm = s.drm ∧
      (createRecord s (pocketAt s 0) st (activeBank s) refsel).svl = s.svl := by
    rw [createRecord_frame]; exact ⟨rfl, rfl⟩
  have created (st : PartState) : createRecord s (pocketAt s 0) st (activeBank s) refsel =
      { createRecord s (pocketAt s 0) st (activeBank s) refsel with drm := s.drm, svl := s.svl } := by
    rw [← (same st).1, ← (same st).2]
  simp only [← loadAdmitted_iff, loadArrival, empty]
  by_cases admitted : loadAdmitted s refsel = true
  · rw [if_pos admitted]
    cases refsel with
    | true => exact ⟨.measuring, _, _, created .measuring, by simp [admitted], .inl rfl, by simp, fun _ => ⟨rfl, rfl⟩⟩
    | false =>
      exact ⟨.measuring, _, _, productLoad_of_same (same .measuring).1 (same .measuring).2, by simp [admitted], .inl rfl,
        fun _ => ⟨rfl, rfl⟩, by simp⟩
  · rw [if_neg admitted]
    exact ⟨.void, _, _, created .void, by simp [admitted], .inr rfl, by simp, fun _ => ⟨rfl, rfl⟩⟩

/-- Settles O11. A load on an EMPTY pocket is the creation of a record with the drift monitor's share; one on an occupied
pocket is its voiding, which writes no other record. -/
theorem loadArrivalOutcomes : Obligations.LoadArrivalOutcomes := by
  unfold Obligations.LoadArrivalOutcomes
  intro refsel s running
  refine ⟨rfl, loadArrival refsel s.withLoadLevel, exec_loadArrival running refsel, ?_⟩
  rcases h : s.record (pocketAt s 0) with _ | r
  case none =>
    obtain ⟨st, d, v, out, measured, either, product, other⟩ := loadArrival_of_empty (s := s.withLoadLevel) h refsel
    have frame := createRecord_frame s.withLoadLevel (pocketAt s 0) st (activeBank s) refsel
    have record := createRecord_record s.withLoadLevel (pocketAt s 0) st (activeBank s) refsel
    have port := port_createRecord s.withLoadLevel (pocketAt s 0) st (activeBank s) refsel
    have report : (productLoad s.withLoadLevel).drm = (productLoad s).drm ∧
        (productLoad s.withLoadLevel).svl = (productLoad s).svl := by
      rw [productLoad_of_same (s := s) (u := s.withLoadLevel) rfl rfl]; exact ⟨rfl, rfl⟩
    rw [report.1, report.2] at product
    rw [out]
    refine ⟨fun _ => settleTimers_of_unmoved fun id => ?unmoved, ?ring, ?pointer, ?opState, ?index, ?gates, ?trc, ?ttp,
      fun q ne => (record q).trans (if_neg ne), fun _ => ⟨⟨st, measured, either, (record _).trans (if_pos rfl), product, other⟩,
        ?serial, ?conflicts, ?bins, port .a, port .b, createRecord_untracked _ _ _ _ _, fun k => ?bank⟩, fun _ full => absurd full.symm (Option.some_ne_none _)⟩
    case unmoved => exact congrArg (·.entries.head?) ((State.port_of_ports rfl rfl id).trans (port id))
    case bank => exact (State.bank_of_banks rfl rfl k).trans (bank_createRecord ..)
    case ring => exact congrArg (·.ptk.ring) frame
    case pointer => exact congrArg (·.ptk.loadPointer) frame
    case opState => exact congrArg (·.ptk.opState) frame
    case index => exact congrArg (·.ptk.indexCount) frame
    case gates => exact congrArg (·.gates) frame
    case trc => exact congrArg (·.trc) frame
    case ttp => exact congrArg (·.ttp) frame
    case serial => exact congrArg (·.ptk.serial) frame
    case conflicts => exact congrArg (·.ptk.conflicts) frame
    case bins => exact congrArg (·.bins) frame
  case some =>
    have frame := voidPocket_frame s (pocketAt s 0)
    have record := voidPocket_record h
    rw [loadArrival_of_occupied h]
    refine ⟨nofun, rfl, rfl, rfl, rfl, congrArg (·.gates) frame, congrArg (·.trc) frame, rfl,
      fun q ne => (record q).trans (if_neg ne), nofun, fun w same => ?_⟩
    cases same
    exact ⟨(record _).trans (if_pos rfl), rfl, rfl, rfl, congrArg (·.bankA) frame, congrArg (·.bankB) frame,
      congrArg (·.drm) frame, rfl, rfl, rfl, rfl⟩

end Sys2Proof.Machine
end
